-- ==== Sys2Proof/Word.lean ====
section
/-! DEFINITION. The word types of the QLF cipher block (00_scope R5, R7, R8). -/

namespace Sys2Proof

/-- A byte, or one character of the input string: 8 bits (00_scope R8). -/
abbrev Byte := BitVec 8

/-- A Block: "exactly 8 bytes", held as 64 bits, byte 0 most significant (20_memory R50). -/
abbrev Block := BitVec 64

/-- One of the halves L and R of the cipher state (00_scope R5). -/
abbrev Half := BitVec 32

/-- One of the halves C and D of the key schedule (00_scope R5). -/
abbrev KeyHalf := BitVec 28

/-- A RoundKey: 6 bytes held as 48 bits (41_key_schedule R124). -/
abbrev RoundKey := BitVec 48

/-- A SingleCipherSchedule: round keys at positions 0 to 15 (10_state R24). -/
abbrev Schedule := Vector RoundKey 16

/-- A TripleSchedule: three schedules in slots 0, 1, 2 (10_state R24). -/
abbrev TripleSchedule := Vector Schedule 3

/-- The CipherKey: 24 bytes (40_tables_and_primitives R98). -/
abbrev CipherKey := Vector Byte 24

end Sys2Proof
end

