-- ==== Sys2Proof/Config.lean ====
section
/-! DEFINITION. What one built block fixes (00_scope R6): the table set, the key, the input capacity, the number of
instances and the port map, all open parameters of the spec and therefore opaque here; and the contents of the data
registers before their first write, which the spec leaves unspecified. -/

namespace Sys2Proof

/-- The members of TABLES (40_tables_and_primitives R95). Permutation and selection tables hold the spec's own
entries: positions counted from 1 at the most significant end (R90). -/
structure TableSet where
  ip : Vector Nat 64
  fp : Vector Nat 64
  e : Vector Nat 48
  p : Vector Nat 32
  pc1c : Vector Nat 28
  pc1d : Vector Nat 28
  pc2 : Vector Nat 48
  shift : Vector Nat 16
  s : Vector (Vector (BitVec 4) 64) 8
  deriving DecidableEq, Repr, Inhabited

/-- Every entry is a position from 1 to `w`. -/
abbrev entriesWithin (t : List Nat) (w : Nat) : Prop := ∀ p ∈ t, 1 ≤ p ∧ p ≤ w

/-- 40_tables_and_primitives R96: the entry ranges of R95, IP a bijection on 1..64, and FP its inverse in the sense
of R91 (entry IP[j] of FP is j). Entry counts, and the range 0..15 of the boxes, are in the types. -/
abbrev TableSet.WellFormed (t : TableSet) : Prop :=
  entriesWithin t.ip.toList 64 ∧ entriesWithin t.fp.toList 64 ∧ entriesWithin t.e.toList 32 ∧
  entriesWithin t.p.toList 32 ∧ entriesWithin t.pc1c.toList 64 ∧ entriesWithin t.pc1d.toList 64 ∧
  entriesWithin t.pc2.toList 56 ∧ entriesWithin t.shift.toList 2 ∧
  t.ip.toList.Nodup ∧
  ∀ j : Fin 64, t.fp.toList[t.ip[j] - 1]? = some (j.val + 1)

/-- A table set that only shows that a well-formed one exists (every permutation the identity, every selection its
first position). No definition of the machine reads it. -/
def TableSet.witness : TableSet where
  ip := Vector.ofFn fun j => j.val + 1
  fp := Vector.ofFn fun j => j.val + 1
  e := Vector.replicate 48 1
  p := Vector.replicate 32 1
  pc1c := Vector.replicate 28 1
  pc1d := Vector.replicate 28 1
  pc2 := Vector.replicate 48 1
  shift := Vector.replicate 16 1
  s := Vector.replicate 8 (Vector.replicate 64 0)

theorem TableSet.witness_wellFormed : TableSet.witness.WellFormed := by decide +kernel

/-- "A model takes TABLES as a configuration argument together with a proof that it is well formed" (R96). -/
structure Tables where
  set : TableSet := TableSet.witness
  wf : set.WellFormed := by exact TableSet.witness_wellFormed
  deriving DecidableEq, Repr, Inhabited

/-- The constants of one built block that its transactions read: KEY, TABLES and IBUF_CAP (`none` is "unbounded")
(00_scope R6; assumption 1). -/
structure Parameters where
  key : CipherKey
  tables : Tables
  ibufCap : Option Nat
  deriving DecidableEq, Repr

/-- The named ports (20_memory R52). -/
inductive Port where
  | cmd | status | blk | ibuf | ilen | obuf | olen
  deriving DecidableEq, Repr

/-- A PORT_MAP: the bus address of each port of each numbered instance (00_scope R6, 20_memory R52). An instance "is
identified only by which ports the host addresses" (60_exceptions R218), so an address belongs to ports of one instance
at most (DEDUCED, assumption 9). The default only shows that such a map exists. -/
structure PortMap where
  address (n : Nat) (p : Port) : Nat := n
  separates : ∀ n m p q, address n p = address m q → n = m := by exact fun _ _ _ _ h => h
  deriving Inhabited

/-- Every port of an instance at one address of its own. No definition of the machine reads it. -/
def PortMap.witness : PortMap := {}

/-- KEY: OPEN (00_scope R6, 92 D5). No value of it is provable. -/
opaque Config.key : CipherKey

/-- TABLES: OPEN (00_scope R6, 92 D4). Nothing but its well-formedness is provable. -/
opaque Config.tables : Tables

/-- IBUF_CAP: OPEN (00_scope R6, 92 D22). -/
opaque Config.ibufCap : Option Nat

/-- How many instances there are besides the first: N_INST is OPEN and at least 1 (00_scope R6, 92 D23). -/
opaque Config.furtherInstances : Nat

/-- N_INST (00_scope R6). -/
def Config.nInst : Nat := Config.furtherInstances + 1

/-- PORT_MAP: OPEN, names to bus addresses (00_scope R6, 92 D14). No address is provable, only that an address belongs to
one instance. -/
opaque Config.portMap : PortMap

/-- What BLK holds before its first write: unspecified (10_state R34, 93 U6), so no value of it is provable
(DESIGN CHOICE, unsafe: assumption 2). -/
opaque Config.unwrittenBlk : Block

/-- What the round key at a position of a slot of SCHED is before its first write: unspecified (10_state R34, 93 U6),
so no value of it is provable (DESIGN CHOICE, unsafe: assumption 3). -/
opaque Config.unwrittenRoundKey (slot position : Nat) : RoundKey

/-- SCHED before its first write. -/
def Config.unwrittenSched : TripleSchedule :=
  Vector.ofFn fun n => Vector.ofFn fun i => Config.unwrittenRoundKey n.val i.val

/-- The parameters the block under study is built with. -/
def Config.parameters : Parameters := ⟨Config.key, Config.tables, Config.ibufCap⟩

end Sys2Proof
end

