-- ==== Sys2Proof/Syntax.lean ====
section
/-! DEFINITION. The five commands (30_encoding R70) and the raw fields of a command word (R71). -/

namespace Sys2Proof

/-- The direction of one schedule (00_scope R10): `ENC` and `DEC` of the assembler. -/
inductive Direction where
  | encrypt | decrypt
  deriving DecidableEq, Repr

/-- The mode of the triple operation: the same two values (00_scope R10). -/
abbrev Mode := Direction

/-- A slot of SCHED: 0, 1 or 2 (30_encoding R72). -/
abbrev Slot := Fin 3

/-- A sub-key of KEY (30_encoding R73). -/
inductive SubKey where
  | k1 | k2 | k3
  deriving DecidableEq, Repr

/-- The commands of the block, one constructor per row of the opcode table (30_encoding R70). -/
inductive Instr where
  /-- `KSCHED s, Kk, d` (41_key_schedule R125). -/
  | ksched (n : Slot) (k : SubKey) (d : Direction)
  /-- `XFORM s` (42_block_transform R145). -/
  | xform (n : Slot)
  /-- `TSETUP m` (43_triple_chaining R156). -/
  | tsetup (m : Mode)
  /-- `TXFORM` (43_triple_chaining R160). -/
  | txform
  /-- `DECODE` (44_payload_decoder R180). -/
  | decode
  deriving DecidableEq, Repr

/-- The fields of an 8-bit command word, before any check (30_encoding R71). -/
structure CommandFields where
  op : BitVec 3
  s : BitVec 2
  k : BitVec 2
  d : BitVec 1
  deriving DecidableEq, Repr

end Sys2Proof
end

