-- ==== Sys2Proof/WellFormed.lean ====
section
/-! DEFINITION. Which command words are legal, field by field (30_encoding R72, R73, R74, R77). It is written apart
from the decoder (R71), so that the two can be compared. -/

namespace Sys2Proof

/-- The operations 000, 110 and 111 are reserved (30_encoding R77). -/
def CommandFields.opLegal (f : CommandFields) : Bool :=
  f.op ≠ 0b000#3 ∧ f.op ≠ 0b110#3 ∧ f.op ≠ 0b111#3

/-- 30_encoding R72: `s` names slot 0, 1 or 2 where it is an operand, and is 0 elsewhere. -/
def CommandFields.slotLegal (f : CommandFields) : Bool :=
  if f.op = 0b001#3 ∨ f.op = 0b010#3 then f.s ≠ 3#2 else f.s = 0#2

/-- 30_encoding R73: `k` selects sub-key 1, 2 or 3 of KSCHED, and is 0 elsewhere. -/
def CommandFields.subKeyLegal (f : CommandFields) : Bool :=
  if f.op = 0b001#3 then f.k ≠ 0#2 else f.k = 0#2

/-- 30_encoding R74: `d` is free in KSCHED and TSETUP, and 0 elsewhere. -/
def CommandFields.directionLegal (f : CommandFields) : Bool :=
  if f.op = 0b001#3 ∨ f.op = 0b011#3 then true else f.d = 0#1

/-- The fields of a legal word: not one of the 231 of 30_encoding R77. -/
def CommandFields.wellFormed (f : CommandFields) : Bool :=
  f.opLegal && f.slotLegal && f.subKeyLegal && f.directionLegal

end Sys2Proof
end

