-- ==== Sys2Proof/Decode.lean ====
section
/-! DEFINITION. The decoder of command words (30_encoding R71), total over the 256 values of `c` and rejecting by
name, and the encoder (30_encoding R76). -/

namespace Sys2Proof

/-- Why a word is reserved (30_encoding R77). All reasons have one outcome, IllegalCommand (60_exceptions R201). -/
inductive Reserved where
  /-- `op` is 000, 110 or 111. -/
  | operation
  /-- `s` is 3 where it is an operand, or not 0 where it is none. -/
  | slot
  /-- `k` is 0 in KSCHED, or not 0 in another command. -/
  | subKey
  /-- `d` is 1 in a command that takes no direction or mode. -/
  | direction
  deriving DecidableEq, Repr

/-- The one format: `op` in bits 7..5, `s` in 4..3, `k` in 2..1, `d` in bit 0 (30_encoding R71). -/
def fieldsOf (c : Byte) : CommandFields where
  op := c.extractLsb' 5 3
  s := c.extractLsb' 3 2
  k := c.extractLsb' 1 2
  d := c.extractLsb' 0 1

/-- The slot that field `s` names; 3 names none (30_encoding R72). -/
def slotOfField (s : BitVec 2) : Option Slot :=
  match s with
  | 0b00#2 => some 0
  | 0b01#2 => some 1
  | 0b10#2 => some 2
  | _ => none

/-- The sub-key that field `k` selects; 0 selects none (30_encoding R73). -/
def subKeyOfField (k : BitVec 2) : Option SubKey :=
  match k with
  | 0b01#2 => some .k1
  | 0b10#2 => some .k2
  | 0b11#2 => some .k3
  | _ => none

/-- 0 is encrypt, 1 is decrypt (00_scope R10, 30_encoding R74). -/
def directionOfField (d : BitVec 1) : Direction :=
  if d = 0#1 then .encrypt else .decrypt

/-- The operand `k` of a command that takes none must be 0, and `d` must be 0 unless `dFree`. -/
def checkUnused (f : CommandFields) (dFree : Bool) (i : Instr) : Except Reserved Instr :=
  if f.k ≠ 0#2 then .error .subKey
  else if f.d ≠ 0#1 ∧ dFree = false then .error .direction
  else .ok i

/-- `decode(c)` of 30_encoding R71. -/
def decode (c : Byte) : Except Reserved Instr :=
  let f := fieldsOf c
  match f.op with
  | 0b001#3 =>
    match slotOfField f.s, subKeyOfField f.k with
    | none, _ => .error .slot
    | some _, none => .error .subKey
    | some n, some k => .ok (.ksched n k (directionOfField f.d))
  | 0b010#3 =>
    match slotOfField f.s with
    | none => .error .slot
    | some n => checkUnused f false (.xform n)
  | 0b011#3 =>
    if f.s ≠ 0#2 then .error .slot else checkUnused f true (.tsetup (directionOfField f.d))
  | 0b100#3 =>
    if f.s ≠ 0#2 then .error .slot else checkUnused f false .txform
  | 0b101#3 =>
    if f.s ≠ 0#2 then .error .slot else checkUnused f false .decode
  | _ => .error .operation

/-- The command an instruction word of the opcode table stands for, if it is legal; bits above `nbits` are 0. The
block's words are 8 bits (30_encoding R78). -/
def decodeTableWord (nbits w : Nat) : Option Instr :=
  match decode (BitVec.ofNat 8 (w % 2 ^ nbits)) with
  | .ok i => some i
  | .error _ => none

/-- Field `s` of a slot (30_encoding R76). -/
def slotField (n : Slot) : BitVec 2 := BitVec.ofNat 2 n.val

/-- Field `k` of a sub-key (30_encoding R73). -/
def subKeyField (k : SubKey) : BitVec 2 :=
  match k with
  | .k1 => 0b01#2
  | .k2 => 0b10#2
  | .k3 => 0b11#2

/-- Field `d` of a direction or mode (30_encoding R74). -/
def directionField (d : Direction) : BitVec 1 :=
  match d with
  | .encrypt => 0#1
  | .decrypt => 1#1

/-- The word with the given fields. -/
def wordOf (f : CommandFields) : Byte := f.op ++ f.s ++ f.k ++ f.d

/-- The word of a command (30_encoding R76). -/
def encode (i : Instr) : Byte :=
  match i with
  | .ksched n k d => wordOf ⟨0b001#3, slotField n, subKeyField k, directionField d⟩
  | .xform n => wordOf ⟨0b010#3, slotField n, 0#2, 0#1⟩
  | .tsetup m => wordOf ⟨0b011#3, 0#2, 0#2, directionField m⟩
  | .txform => wordOf ⟨0b100#3, 0#2, 0#2, 0#1⟩
  | .decode => wordOf ⟨0b101#3, 0#2, 0#2, 0#1⟩

end Sys2Proof
end

