-- ==== Sys2Proof/Machine/State.lean ====
section
/-! DEFINITION. The state of one instance of the block (10_state R20), as plain data, and its value after reset
(10_state R34); the host transactions (20_memory R56) and what they return; the reasons a step can stop. -/

namespace Sys2Proof.Machine

/-- A buffer memory: its elements with their indices, in the one canonical form `Memory.wf` (indices 0, 1, 2, ...,
in order). An unlisted index is an element that does not exist (20_memory R52, 93 U5; assumption 7). -/
abbrev Memory := List Host.Cell

/-- The value of ERR: a five-valued enumeration (10_state R28, 93 U9). -/
inductive Err where
  | ok | invalidHex | illegalCommand | slotNotReady | blockNotReady
  deriving DecidableEq, Repr

/-- What a command can raise (60_exceptions R200 to R203). -/
inductive Cause where
  | invalidHex | illegalCommand | slotNotReady | blockNotReady
  deriving DecidableEq, Repr

/-- The host transactions, complete (20_memory R56): any other access "does not exist: a model has no move for it"
(93 U12). -/
inductive Transaction where
  /-- `WR BLK, v` -/
  | wrBlk (v : Block)
  /-- `RD BLK` -/
  | rdBlk
  /-- `LD IBUF, s` -/
  | ldIbuf (s : List Byte)
  /-- `RD ILEN` -/
  | rdIlen
  /-- `RD OLEN` -/
  | rdOlen
  /-- `RD OBUF` -/
  | rdObuf
  /-- `RD OBUF[j]` -/
  | rdObufAt (j : Nat)
  /-- `RD STATUS` -/
  | rdStatus
  /-- `CMD c`, or the mnemonic of `c` -/
  | cmd (c : Byte)
  deriving DecidableEq, Repr

/-- What a transaction returns to the host (20_memory R56, last column). -/
inductive Reply where
  | block (v : Block)
  | length (n : Nat)
  | bytes (b : List Byte)
  | byte (b : Byte)
  | status (v : Byte)
  deriving DecidableEq, Repr

/-- Faults that stop the machine: there is none. Everything a command raises is a defined outcome after which "the
engine simply waits for the next host transaction" (60_exceptions R204; assumptions 10 and 19). -/
inductive Fault where
  deriving DecidableEq, Repr

/-- Moves the model does not have. -/
inductive Refusal where
  /-- Raised by an arm of `exec` whose command has no meaning yet (none has): safe, since nothing is then claimed of it. -/
  | notModelled (mnemonic : String)
  /-- Raised by `RD BLK` while `BV = 0`: the transaction's precondition is "`BV = 1`, else refused" (20_memory R56), "a
  model refuses it" (10_state R21), "refused" (70 R232, 92 D16, 93 U4). Safe: no value is claimed. -/
  | blockUnwritten
  /-- Raised by `RD OBUF[j]` with `j >= OLEN`: the element does not exist (10_state R30, 93 U5). Safe: no value is
  claimed. -/
  | noSuchOutputElement
  /-- Raised by `LD IBUF, s` with more than IBUF_CAP characters: "not a transaction of the block" (10_state R30, 93
  U13). Safe: nothing is claimed of a longer load. -/
  | loadTooLong
  /-- Raised by the layer of instances (`systemStep`) when the host addresses what is no port of an instance for its
  transaction: "a model has no move for it" (20_memory R56, 60_exceptions R218). Safe: nothing is claimed of it. -/
  | noSuchInstance
  deriving DecidableEq, Repr

/-- One instance of the block (10_state R20), the constants it is built with, and the host's side of its ports. -/
structure State where
  /-- KEY, TABLES, IBUF_CAP: constants no step changes (40_tables_and_primitives R97; assumption 1). -/
  par : Parameters
  /-- BLK (10_state R21). -/
  blk : Block
  /-- BV, the valid bit of BLK (10_state R21). -/
  bv : Bool
  /-- SCHED[s][i] (10_state R24). -/
  sched : TripleSchedule
  /-- SV[s] (10_state R25). -/
  sv : Vector Bool 3
  /-- ERR (10_state R28). -/
  err : Err
  /-- IBUF; ILEN is its length (10_state R30; assumption 6). -/
  ibuf : Memory
  /-- OBUF; OLEN is its length (10_state R30; assumption 6). -/
  obuf : Memory
  /-- The model's own: the transactions the host will issue, oldest first (assumption 4). -/
  host : List Transaction
  /-- The model's own: what the host's reads have returned, oldest first (assumption 5). -/
  returns : List Reply
  deriving DecidableEq, Repr

/-- The state after reset (10_state R34, 70_reset_and_hazards R230). BLK and SCHED hold unspecified contents behind
their valid bits (assumptions 2 and 3). -/
def State.reset : State where
  par := Config.parameters
  blk := Config.unwrittenBlk
  bv := false
  sched := Config.unwrittenSched
  sv := #v[false, false, false]
  err := .ok
  ibuf := []
  obuf := []
  host := []
  returns := []

end Sys2Proof.Machine
end

