-- ==== Sys2Proof/Machine/Ops.lean ====
section
/-! DEFINITION. The named operations over the buffers and registers, and raising an error, the block's one form of
exception (60_exceptions R204). There is no return from it: "there is nothing to return from" (60_exceptions R206). -/

namespace Sys2Proof.Machine

/-! ### The buffer memories -/

/-- The canonical form of a buffer: its indices are 0, 1, ..., n-1 in this order. -/
abbrev Memory.wf (m : Memory) : Prop := m.map Prod.fst = List.range m.length

/-- The element at index `a`, if it exists (20_memory R52). -/
def Memory.read (m : Memory) (a : Nat) : Option Byte := m.lookup a

/-- The whole content as a sequence. -/
def Memory.toSeq (m : Memory) : List Byte := m.map Prod.snd

/-- The buffer that holds exactly a sequence, element `i` at index `i`: both buffers are only ever replaced whole
(10_state R30, 44_payload_decoder R180). -/
def Memory.ofSeq (b : List Byte) : Memory := (List.range b.length).zip b

/-- `MemRead(space, a, n)` (00_scope R9). -/
def Memory.memRead (m : Memory) (a n : Nat) : List Byte := (m.toSeq.drop a).take n

/-! ### Registers -/

/-- ILEN, "length of IBUF" (10_state R20; assumption 6). -/
def State.ilen (s : State) : Nat := s.ibuf.length

/-- OLEN, "length of OBUF" (10_state R20; assumption 6). -/
def State.olen (s : State) : Nat := s.obuf.length

/-- `BLK <- v` by a command, which never changes BV (10_state R21). -/
def State.setBlk (s : State) (v : Block) : State := { s with blk := v }

/-- The host's `BLK <- v; BV <- 1` (10_state R21). -/
def State.writeBlk (s : State) (v : Block) : State := { s with blk := v, bv := true }

/-- All 16 positions of one slot and its valid bit (10_state R24, R25). -/
def State.writeSlot (s : State) (n : Slot) (v : Schedule) : State :=
  { s with sched := s.sched.set n v, sv := s.sv.set n true }

/-- All three slots and their valid bits (43_triple_chaining R156). -/
def State.writeSlots (s : State) (v : TripleSchedule) : State :=
  { s with sched := v, sv := #v[true, true, true] }

/-- `IBUF <- c; ILEN <- len(c)` (20_memory R56). -/
def State.loadIbuf (s : State) (c : List Byte) : State := { s with ibuf := Memory.ofSeq c }

/-- `MemWrite(OBUF, 0, len(out), out); OLEN <- len(out)`: OBUF becomes exactly `out` (44_payload_decoder R180). -/
def State.writeObuf (s : State) (out : List Byte) : State := { s with obuf := Memory.ofSeq out }

/-- `ERR <- e` (10_state R28). -/
def State.setErr (s : State) (e : Err) : State := { s with err := e }

/-- A transaction's answer to the host (20_memory R56; assumption 5). -/
def State.answer (s : State) (r : Reply) : State := { s with returns := s.returns ++ [r] }

/-- The host's remaining transactions (assumption 4). -/
def State.setHost (s : State) (rest : List Transaction) : State := { s with host := rest }

/-! ### The outcome of a command -/

/-- The code ERR takes for a cause (60_exceptions R204). -/
def Cause.err (x : Cause) : Err :=
  match x with
  | .invalidHex => .invalidHex
  | .illegalCommand => .illegalCommand
  | .slotNotReady => .slotNotReady
  | .blockNotReady => .blockNotReady

/-- The state that `raise x` leaves (60_exceptions R204): ERR takes the code; InvalidHex also empties the output
buffer (44_payload_decoder R181); nothing is saved, no mode changes, control goes nowhere. -/
def raise (x : Cause) (s : State) : State :=
  match x with
  | .invalidHex => (s.writeObuf []).setErr x.err
  | .illegalCommand => s.setErr x.err
  | .slotNotReady => s.setErr x.err
  | .blockNotReady => s.setErr x.err

/-- `ERR <- 0`, the end of a command that completes (10_state R28). -/
def complete (s : State) : State := s.setErr .ok

/-- What a platform's reset does to an instance between two transactions (70_reset_and_hazards R231): exactly the
effect of R230; the constants stay (10_state R34) and the host's side is not the block's. It is no transaction and no
step of the model (93 U17; assumption 18). -/
def platformReset (s : State) : State :=
  { State.reset with par := s.par, host := s.host, returns := s.returns }

end Sys2Proof.Machine
end

