-- ==== Sys2Proof/Machine/Primitives.lean ====
section
/-! DEFINITION. Bit primitives and table lookups (00_scope R7, R8; 40_tables_and_primitives R90 to R94). They use only
selection, exclusive-or, rotation, concatenation and lookup (R110). -/

namespace Sys2Proof.Machine

/-- The bit at position `i`, counted from 1 at the most significant end: `v[W - i]` (00_scope R7). -/
def bitm (v : BitVec w) (i : Nat) : Bool := v.getLsbD (w - i)

/-- `perm(T, v, W)`: position `j` of the result is position `T[j]` of `v`, both counted from the most significant end
(40 R90). -/
def perm (t : Vector Nat n) (v : BitVec w) : BitVec n := BitVec.ofFnBE fun j => bitm v t[j]

/-- `inverse(T)` of a bijection on 1..n: entry `p` is the place of `p` in `T` (40 R91). -/
def inverse (t : Vector Nat n) : Vector Nat n := Vector.ofFn fun p => t.toList.idxOf (p.val + 1) + 1

/-- `rotl28(v, n)`: the top `n` bits re-enter at the least significant end (40 R92). The spec uses `n` in 1, 2; that other
amounts rotate too is assumption 21. -/
def rotl28 (v : KeyHalf) (n : Nat) : KeyHalf := v.rotateLeft n

/-- `be(n, bytes)`: byte 0 is the most significant (00_scope R8). -/
def be (n : Nat) (b : List Byte) : BitVec (8 * n) :=
  BitVec.ofNat (8 * n) (b.foldl (fun acc x => 256 * acc + x.toNat) 0)

/-- `bytes_be(n, v)`: byte `i` is `v[8(n-i)-1 : 8(n-1-i)]` (00_scope R8). -/
def bytesBe (n : Nat) (v : BitVec (8 * n)) : List Byte :=
  (List.range n).map fun i => v.extractLsb' (8 * (n - 1 - i)) 8

/-- `sidx(g)`: the outer bits `g[5] g[0]` are the row, the inner four `g[4:1]` the column, the row more significant
(40 R93). -/
def sidx (g : BitVec 6) : BitVec 6 := g.extractLsb' 5 1 ++ g.extractLsb' 0 1 ++ g.extractLsb' 1 4

/-- `sbox(j, g)` is `TABLES.S[j][sidx(g)]` (40 R94). -/
def sbox (t : TableSet) (j : Fin 8) (g : BitVec 6) : BitVec 4 := t.s[j][(sidx g).toFin]

end Sys2Proof.Machine
end

