-- ==== Sys2Proof/Machine/Operands.lean ====
section
/-! DEFINITION. The operands of the commands (30_encoding R72, R73): slots of SCHED and sub-keys of KEY. The block has
no other operand form (R75). -/

namespace Sys2Proof.Machine

/-- The sub-key number `k` minus 1. -/
def subKeyIndex (k : SubKey) : Nat :=
  match k with
  | .k1 => 0
  | .k2 => 1
  | .k3 => 2

/-- `be(8, KEY[8*(k-1) .. 8*k))`: K1, K2 or K3 (00_scope R10, 41_key_schedule R125). -/
def subKey (key : CipherKey) (k : SubKey) : Block :=
  be 8 ((key.toList.drop (8 * subKeyIndex k)).take 8)

/-- SCHED[n], the sixteen round keys of one slot (10_state R24). -/
def State.slot (s : State) (n : Slot) : Schedule := s.sched[n]

/-- SV[n] (10_state R25). -/
def State.slotValid (s : State) (n : Slot) : Bool := s.sv[n]

/-- SV[0] = SV[1] = SV[2] = 1, what TXFORM needs (10_state R25). -/
def State.allSlotsValid (s : State) : Bool := s.slotValid 0 && s.slotValid 1 && s.slotValid 2

end Sys2Proof.Machine
end

