-- ==== Sys2Proof/Machine/BlockTransform.lean ====
section
/-! DEFINITION. The round function, the single-block transform and the XFORM command (42_block_transform). -/

namespace Sys2Proof.Machine

/-- Group `j` of the 48-bit value: `x[47 - 6j : 42 - 6j]`, group 0 the most significant (42 R135, R136). -/
def group (x : RoundKey) (j : Nat) : BitVec 6 := x.extractLsb' (42 - 6 * j) 6

/-- The eight box outputs, box 0 the most significant nibble (42 R135, R136). -/
def substitute (t : TableSet) (x : RoundKey) : Half :=
  sbox t 0 (group x 0) ++ sbox t 1 (group x 1) ++ sbox t 2 (group x 2) ++ sbox t 3 (group x 3) ++
    sbox t 4 (group x 4) ++ sbox t 5 (group x 5) ++ sbox t 6 (group x 6) ++ sbox t 7 (group x 7)

/-- `round_function(half, rk)` (42 R135). -/
def roundFunction (t : TableSet) (half : Half) (rk : RoundKey) : Half :=
  perm t.p (substitute t (perm t.e half ^^^ rk))

/-- The halves of the cipher state, L the more significant (42 R141). -/
structure Halves where
  l : Half
  r : Half
  deriving DecidableEq, Repr

/-- One uniform round: `(L, R) = (R, round_function(R, k) ^ L)` (42 R140). -/
def feistelRound (t : TableSet) (h : Halves) (k : RoundKey) : Halves := ⟨h.r, roundFunction t h.r k ^^^ h.l⟩

/-- The halves of the permuted block (42 R140, R141). -/
def initialHalves (t : TableSet) (block : Block) : Halves :=
  ⟨(perm t.ip block).extractLsb' 32 32, (perm t.ip block).extractLsb' 0 32⟩

/-- Rounds 0 to 14, in this order (42 R140). -/
def rounds (t : TableSet) (h : Halves) (sched : Schedule) : Halves :=
  (sched.toList.take 15).foldl (feistelRound t) h

/-- The finalising round, without a swap, and the final permutation of `L ++ R` (42 R140). -/
def finish (t : TableSet) (h : Halves) (k : RoundKey) : Block :=
  perm t.fp ((h.l ^^^ roundFunction t h.r k) ++ h.r)

/-- `transform(block, sched)` (42 R140); it has no direction (R143). -/
def transform (t : TableSet) (block : Block) (sched : Schedule) : Block :=
  finish t (rounds t (initialHalves t block) sched) sched[15]

/-- `XFORM s` (42 R145): BlockNotReady before SlotNotReady (60_exceptions R207). -/
def execXform (n : Slot) (s : State) : Host.Outcome State Fault Refusal :=
  if s.bv = false then .next (raise .blockNotReady s)
  else if s.slotValid n = false then .next (raise .slotNotReady s)
  else .next (complete (s.setBlk (transform s.par.tables.set s.blk (s.slot n))))

end Sys2Proof.Machine
end

