-- ==== Sys2Proof/Machine/KeySchedule.lean ====
section
/-! DEFINITION. Key schedule generation and the KSCHED command (41_key_schedule). -/

namespace Sys2Proof.Machine

/-- The sixteen iterations of 41 R120, one entry of SHIFT each: both halves are rotated, then compressed, `C` the more
significant (R123); the rotations accumulate (R121). -/
def roundKeys (t : TableSet) (c d : KeyHalf) (shifts : List Nat) : List RoundKey :=
  match shifts with
  | [] => []
  | n :: rest => perm t.pc2 (rotl28 c n ++ rotl28 d n) :: roundKeys t (rotl28 c n) (rotl28 d n) rest

theorem length_roundKeys (t : TableSet) (c d : KeyHalf) (shifts : List Nat) :
    (roundKeys t c d shifts).length = shifts.length := by
  induction shifts generalizing c d with
  | nil => rfl
  | cons n rest ih => simp [roundKeys, ih]

/-- The round keys of a sub-key in the order they are generated: `g[i]` of 41 R122. -/
def generatedKeys (t : TableSet) (subkey : Block) : Vector RoundKey 16 :=
  ⟨⟨roundKeys t (perm t.pc1c subkey) (perm t.pc1d subkey) t.shift.toList⟩, by simp [length_roundKeys]⟩

/-- `generate_schedule(subkey, direction)` (41 R120): the key of iteration `i` goes to position `i`, or to position
`15 - i` for decrypt (R122). -/
def generateSchedule (t : TableSet) (subkey : Block) (d : Direction) : Schedule :=
  match d with
  | .encrypt => generatedKeys t subkey
  | .decrypt => Vector.ofFn fun i => (generatedKeys t subkey)[15 - i.val]

/-- The byte view of a RoundKey, for a reader who compares with "6 bytes" (41 R124); no rule uses it. -/
def roundKeyBytes (k : RoundKey) : List Byte := bytesBe 6 k

/-- `KSCHED s, Kk, d` (41 R125). -/
def execKsched (n : Slot) (k : SubKey) (d : Direction) (s : State) : Host.Outcome State Fault Refusal :=
  .next (complete (s.writeSlot n (generateSchedule s.par.tables.set (subKey s.par.key k) d)))

end Sys2Proof.Machine
end

