-- ==== Sys2Proof/Machine/TripleChaining.lean ====
section
/-! DEFINITION. Triple-key composition: the TSETUP and TXFORM commands (43_triple_chaining). -/

namespace Sys2Proof.Machine

/-- `triple_setup(key, mode)` (43 R155). -/
def tripleSetup (t : TableSet) (key : CipherKey) (mode : Mode) : TripleSchedule :=
  match mode with
  | .encrypt => #v[generateSchedule t (subKey key .k1) .encrypt, generateSchedule t (subKey key .k2) .decrypt,
      generateSchedule t (subKey key .k3) .encrypt]
  | .decrypt => #v[generateSchedule t (subKey key .k3) .decrypt, generateSchedule t (subKey key .k2) .encrypt,
      generateSchedule t (subKey key .k1) .decrypt]

/-- `triple_transform(block, ts)`: slots 0, 1, 2 in that order, whatever the mode (43 R158). -/
def tripleTransform (t : TableSet) (block : Block) (ts : TripleSchedule) : Block :=
  transform t (transform t (transform t block ts[0]) ts[1]) ts[2]

/-- `TSETUP m` (43 R156). -/
def execTsetup (m : Mode) (s : State) : Host.Outcome State Fault Refusal :=
  .next (complete (s.writeSlots (tripleSetup s.par.tables.set s.par.key m)))

/-- `TXFORM` (43 R160): BlockNotReady before SlotNotReady (60_exceptions R207). -/
def execTxform (s : State) : Host.Outcome State Fault Refusal :=
  if s.bv = false then .next (raise .blockNotReady s)
  else if s.allSlotsValid = false then .next (raise .slotNotReady s)
  else .next (complete (s.setBlk (tripleTransform s.par.tables.set s.blk s.sched)))

end Sys2Proof.Machine
end

