-- ==== Sys2Proof/Machine/PayloadDecoder.lean ====
section
/-! DEFINITION. The hex front-end, chunking and the DECODE command (44_payload_decoder). -/

namespace Sys2Proof.Machine

/-- `hexval(c)` (44 R170): the 22 digits of the table, and nothing else. -/
def hexval (c : Byte) : Option (BitVec 4) :=
  if 0x30 ≤ c.toNat ∧ c.toNat ≤ 0x39 then some (BitVec.ofNat 4 (c.toNat - 0x30))
  else if 0x41 ≤ c.toNat ∧ c.toNat ≤ 0x46 then some (BitVec.ofNat 4 (c.toNat - 0x41 + 10))
  else if 0x61 ≤ c.toNat ∧ c.toNat ≤ 0x66 then some (BitVec.ofNat 4 (c.toNat - 0x61 + 10))
  else none

/-- `hexdecode(s)` (44 R171): pairs of characters, the first the high nibble; `none` is InvalidHex, for an odd length
and for a character that is no digit alike (R172). -/
def hexdecode (s : List Byte) : Option (List Byte) :=
  match s with
  | [] => some []
  | [_] => none
  | a :: b :: rest =>
    match hexval a, hexval b, hexdecode rest with
    | some h, some l, some out => some ((h ++ l) :: out)
    | _, _, _ => none

/-- `chunks8(B)`: chunk `k` is `B[8k .. 8k+8)` for `k < len(B) div 8`; the rest is dropped (44 R174). -/
def chunks8 (b : List Byte) : List (List Byte) :=
  (List.range (b.length / 8)).map fun k => (b.drop (8 * k)).take 8

/-- One chunk through `triple_transform`, as bytes (44 R176). -/
def decryptChunk (t : TableSet) (ts : TripleSchedule) (c : List Byte) : List Byte :=
  bytesBe 8 (tripleTransform t (be 8 c) ts)

/-- `decode_front(s, key)` (44 R176). Its TripleSchedule is private and always decrypt (10_state R31). -/
def decodeFront (t : TableSet) (key : CipherKey) (s : List Byte) : Option (List Byte) :=
  match hexdecode s with
  | none => none
  | some b => some ((chunks8 b).flatMap (decryptChunk t (tripleSetup t key .decrypt)))

/-- `DECODE` (44 R180), and its outcome when the hex decode fails (R181). -/
def execDecode (s : State) : Host.Outcome State Fault Refusal :=
  match decodeFront s.par.tables.set s.par.key (s.ibuf.memRead 0 s.ilen) with
  | none => .next (raise .invalidHex s)
  | some out => .next (complete (s.writeObuf out))

end Sys2Proof.Machine
end

