-- ==== Sys2Proof/Machine/Dispatch.lean ====
section
/-! DEFINITION. One arm per command. -/

namespace Sys2Proof.Machine

/-- The meaning of a command (30_encoding R70). -/
def exec (i : Instr) (s : State) : Host.Outcome State Fault Refusal :=
  match i with
  | .ksched n k d => Sys2Proof.Machine.execKsched n k d s
  | .xform n => Sys2Proof.Machine.execXform n s
  | .tsetup m => Sys2Proof.Machine.execTsetup m s
  | .txform => Sys2Proof.Machine.execTxform s
  | .decode => Sys2Proof.Machine.execDecode s

end Sys2Proof.Machine
end

