-- ==== Sys2Proof/Machine/Flags.lean ====
section
/-! DEFINITION. The flags as the host sees them: the code of ERR and the STATUS byte (10_state R27, R28). No
arithmetic result sets a flag (40_tables_and_primitives R110). -/

namespace Sys2Proof.Machine

/-- The 4-bit code of an ERR value (10_state R28). -/
def Err.code (e : Err) : BitVec 4 :=
  match e with
  | .ok => 0
  | .invalidHex => 1
  | .illegalCommand => 2
  | .slotNotReady => 3
  | .blockNotReady => 4

/-- `BV ++ SV[2] ++ SV[1] ++ SV[0] ++ ERR` (10_state R27, 20_memory R56). -/
def State.status (s : State) : Byte :=
  BitVec.ofBool s.bv ++ BitVec.ofBool (s.slotValid 2) ++ BitVec.ofBool (s.slotValid 1) ++
    BitVec.ofBool (s.slotValid 0) ++ s.err.code

end Sys2Proof.Machine
end

