-- ==== Sys2Proof/Machine/HostPort.lean ====
section
/-! DEFINITION. The host transactions (20_memory R56). Each is atomic (R57, R58); no read has a side effect on the
block (R54). -/

namespace Sys2Proof.Machine

/-- `CMD c`: executes the command `c` encodes; a reserved word raises IllegalCommand (30_encoding R71, R77). Nothing
of `c` is kept (10_state R29). -/
def command (c : Byte) (s : State) : Host.Outcome State Fault Refusal :=
  match decode c with
  | .ok i => exec i s
  | .error _ => .next (raise .illegalCommand s)

/-- `len(s) <= IBUF_CAP` (20_memory R56). -/
def fitsIbuf (cap : Option Nat) (n : Nat) : Bool :=
  match cap with
  | none => true
  | some c => n ≤ c

/-- `RD BLK`: its precondition is "`BV = 1`, else refused" (20_memory R56; 10_state R21, 70 R232, 92 D16, 93 U4). -/
def readBlk (s : State) : Host.Outcome State Fault Refusal :=
  if s.bv then .next (s.answer (.block s.blk)) else .refused .blockUnwritten

/-- `LD IBUF, c`: refused above IBUF_CAP (20_memory R56, 93 U13). -/
def load (c : List Byte) (s : State) : Host.Outcome State Fault Refusal :=
  if fitsIbuf s.par.ibufCap c.length then .next (s.loadIbuf c) else .refused .loadTooLong

/-- `RD OBUF[j]`: refused for `j >= OLEN` (20_memory R56, 93 U5). -/
def readObufAt (j : Nat) (s : State) : Host.Outcome State Fault Refusal :=
  match s.obuf.read j with
  | some b => .next (s.answer (.byte b))
  | none => .refused .noSuchOutputElement

/-- The effect and the return value of one host transaction (20_memory R56). -/
def transact (t : Transaction) (s : State) : Host.Outcome State Fault Refusal :=
  match t with
  | .wrBlk v => .next (s.writeBlk v)
  | .rdBlk => readBlk s
  | .ldIbuf c => load c s
  | .rdIlen => .next (s.answer (.length s.ilen))
  | .rdOlen => .next (s.answer (.length s.olen))
  | .rdObuf => .next (s.answer (.bytes s.obuf.toSeq))
  | .rdObufAt j => readObufAt j s
  | .rdStatus => .next (s.answer (.status s.status))
  | .cmd c => command c s

/-- Which port a transaction uses (20_memory R52, R56). -/
def portOf (t : Transaction) : Port :=
  match t with
  | .wrBlk _ => .blk
  | .rdBlk => .blk
  | .ldIbuf _ => .ibuf
  | .rdIlen => .ilen
  | .rdOlen => .olen
  | .rdObuf => .obuf
  | .rdObufAt _ => .obuf
  | .rdStatus => .status
  | .cmd _ => .cmd

/-- One move of the machine: the host's oldest transaction takes effect, completely (20_memory R57). With none to
issue the block "is simply idle, and all state survives" (60_exceptions R217; assumption 4). -/
def nextTransaction (s : State) : Host.Outcome State Fault Refusal :=
  match s.host with
  | [] => .next s
  | t :: rest => transact t (s.setHost rest)

/-- The host issues `t` before anything else (assumption 4). -/
def issueTransaction (t : Transaction) (s : State) : State := s.setHost (t :: s.host)

/-- The host issues the command word `c` before anything else (assumption 4). -/
def issueFirst (c : Byte) (s : State) : State := issueTransaction (.cmd c) s

end Sys2Proof.Machine
end

