-- ==== Sys2Proof/Machine/Step.lean ====
section
/-! DEFINITION. One step of the machine: one host transaction (20_memory R57). -/

namespace Sys2Proof.Machine

/-- One step: the host's oldest transaction, or nothing when it has none. -/
def step (s : State) : Host.Outcome State Fault Refusal := nextTransaction s

/-- `s` with the command word `w` as the host's next transaction. The block has no program counter and fetches from no
memory: a command is the value of a CMD write (10_state R23, 20_memory R62; assumption 4). -/
def State.withFetchWord (s : State) (nbits w : Nat) : State := issueFirst (BitVec.ofNat 8 (w % 2 ^ nbits)) s

end Sys2Proof.Machine
end

