-- ==== Sys2Proof/Machine/Assembler.lean ====
section
/-! DEFINITION. The notation for programs (30_encoding R80): one host transaction a line. It adds nothing to the
machine. What R80 leaves open of it (where blanks may stand, the letter case of digits, numbers without the prefix `0x`,
the quotation mark and the backslash inside a string) is the model's choice, assumption 20. -/

namespace Sys2Proof.Machine

/-- A line of a program, as characters. -/
abbrev Line := List Char

/-! ### Writing -/

/-- One digit below 16. -/
def digitChar (v : Nat) : Char :=
  ['0', '1', '2', '3', '4', '5', '6', '7', '8', '9', 'A', 'B', 'C', 'D', 'E', 'F'].getD v '?'

/-- `v` in exactly `w` digits to base 16. -/
def hexDigits (w v : Nat) : Line :=
  match w with
  | 0 => []
  | w + 1 => digitChar (v / 16 ^ w % 16) :: hexDigits w v

/-- The decimal digits of `v`; `fuel` bounds their number. -/
def decimalDigits (fuel v : Nat) : Line :=
  match fuel with
  | 0 => []
  | fuel + 1 => (if v < 10 then [] else decimalDigits fuel (v / 10)) ++ [digitChar (v % 10)]

/-- A number of `4 * w` bits with the prefix `0x`. -/
def hexLiteral (w v : Nat) : Line := ['0', 'x'] ++ hexDigits w v

/-- A character of the string of `LD IBUF`: itself if printable, else `\xHH` (30_encoding R80). DESIGN CHOICE, assumption
20: the quotation mark and the backslash, of which R80 says nothing, are written `\x22` and `\x5C`. -/
def writeChar (c : Byte) : Line :=
  if 0x20 ≤ c.toNat ∧ c.toNat ≤ 0x7E ∧ c.toNat ≠ 0x22 ∧ c.toNat ≠ 0x5C then [Char.ofNat c.toNat]
  else ['\\', 'x'] ++ hexDigits 2 c.toNat

def writeDirection (d : Direction) : Line :=
  match d with
  | .encrypt => ['E', 'N', 'C']
  | .decrypt => ['D', 'E', 'C']

def writeSubKey (k : SubKey) : Line := ['K', digitChar (subKeyIndex k + 1)]

/-- A command by mnemonic (30_encoding R80). -/
def writeInstr (i : Instr) : Line :=
  match i with
  | .ksched n k d =>
    ['K', 'S', 'C', 'H', 'E', 'D', ' ', digitChar n.val] ++ [',', ' '] ++ writeSubKey k ++ [',', ' '] ++ writeDirection d
  | .xform n => ['X', 'F', 'O', 'R', 'M', ' ', digitChar n.val]
  | .tsetup m => ['T', 'S', 'E', 'T', 'U', 'P', ' '] ++ writeDirection m
  | .txform => ['T', 'X', 'F', 'O', 'R', 'M']
  | .decode => ['D', 'E', 'C', 'O', 'D', 'E']

/-- A transaction as a line (30_encoding R80); a reserved word is written raw. -/
def writeLine (t : Transaction) : Line :=
  match t with
  | .wrBlk v => ['W', 'R', ' ', 'B', 'L', 'K', ',', ' '] ++ hexLiteral 16 v.toNat
  | .rdBlk => ['R', 'D', ' ', 'B', 'L', 'K']
  | .ldIbuf s => ['L', 'D', ' ', 'I', 'B', 'U', 'F', ',', ' ', '"'] ++ s.flatMap writeChar ++ ['"']
  | .rdIlen => ['R', 'D', ' ', 'I', 'L', 'E', 'N']
  | .rdOlen => ['R', 'D', ' ', 'O', 'L', 'E', 'N']
  | .rdObuf => ['R', 'D', ' ', 'O', 'B', 'U', 'F']
  | .rdObufAt j => ['R', 'D', ' ', 'O', 'B', 'U', 'F', '['] ++ decimalDigits (j + 1) j ++ [']']
  | .rdStatus => ['R', 'D', ' ', 'S', 'T', 'A', 'T', 'U', 'S']
  | .cmd c =>
    match decode c with
    | .ok i => writeInstr i
    | .error _ => ['C', 'M', 'D', ' '] ++ hexLiteral 2 c.toNat

/-! ### Reading -/

/-- The value of a digit to base 16, either letter case. -/
def charDigit (c : Char) : Option Nat :=
  if 0x30 ≤ c.toNat ∧ c.toNat ≤ 0x39 then some (c.toNat - 0x30)
  else if 0x41 ≤ c.toNat ∧ c.toNat ≤ 0x46 then some (c.toNat - 0x41 + 10)
  else if 0x61 ≤ c.toNat ∧ c.toNat ≤ 0x66 then some (c.toNat - 0x61 + 10)
  else none

/-- The number a line of digits to the base writes; `acc` is the value of the digits before it. -/
def digitsValue (base acc : Nat) (l : Line) : Option Nat :=
  match l with
  | [] => some acc
  | c :: rest =>
    match charDigit c with
    | some v => if v < base then digitsValue base (base * acc + v) rest else none
    | none => none

/-- "Numbers with the prefix 0x are hexadecimal" (30_encoding R80). DESIGN CHOICE, assumption 20: a number without the
prefix is decimal, also as the operand of CMD or WR BLK, of which R80 says only that it is `<8-bit hex>` or
`<64-bit hex>`. -/
def readNumber (l : Line) : Option Nat :=
  match l with
  | [] => none
  | '0' :: 'x' :: c :: rest => digitsValue 16 0 (c :: rest)
  | c :: rest => digitsValue 10 0 (c :: rest)

/-- A number that fits in `w` bits: the operand of CMD or WR BLK. Read by `readNumber`, so a form without the prefix
`0x` is decimal, and any number of digits is read whose value fits (DESIGN CHOICE, assumption 20). -/
def readBits (w : Nat) (l : Line) : Option (BitVec w) :=
  match readNumber l with
  | some v => if v < 2 ^ w then some (BitVec.ofNat w v) else none
  | none => none

/-- The characters up to the closing quotation mark, and what stands after it. DESIGN CHOICE, assumption 20: the first
quotation mark ends the string, whatever stands before it; a backslash with an `x` and two further characters after it
is `\xHH`, and refused if these are no hexadecimal digits; any other backslash stands for itself; a character that is
not printable ASCII is refused. -/
def readString (l : Line) : Option (List Byte × Line) :=
  match l with
  | [] => none
  | '"' :: rest => some ([], rest)
  | '\\' :: 'x' :: a :: b :: rest =>
    match charDigit a, charDigit b, readString rest with
    | some h, some v, some (s, after) => some (BitVec.ofNat 8 (16 * h + v) :: s, after)
    | _, _, _ => none
  | c :: rest =>
    match readString rest with
    | some (s, after) => if 0x20 ≤ c.toNat ∧ c.toNat ≤ 0x7E then some (BitVec.ofNat 8 c.toNat :: s, after) else none
    | none => none

/-- What is left of `l` after the given beginning. -/
def afterPrefix (start l : Line) : Option Line :=
  match start, l with
  | [], l => some l
  | _ :: _, [] => none
  | a :: start, b :: l => if a = b then afterPrefix start l else none

/-- A line without its comment and the blanks at its end; a comment starts with `;` (30_encoding R80). Not used on the
string of `LD IBUF`. -/
def stripEnd (l : Line) : Line := ((l.takeWhile (· ≠ ';')).reverse.dropWhile (· = ' ')).reverse

/-- The 25 commands. -/
def allInstrs : List Instr :=
  ([0, 1, 2] : List Slot).flatMap (fun n =>
    [SubKey.k1, .k2, .k3].flatMap fun k => [Direction.encrypt, .decrypt].map fun d => .ksched n k d) ++
  ([0, 1, 2] : List Slot).map .xform ++ [.tsetup .encrypt, .tsetup .decrypt, .txform, .decode]

/-- A line that is a command by mnemonic: its text is exactly what `writeInstr` writes. DESIGN CHOICE, assumption 20: of
`<s>` and `<k>` R80 says only that numbers with `0x` are hexadecimal; here each is one plain digit, so that `XFORM 0x1`
and `XFORM 01` are no lines. -/
def readMnemonic (l : Line) : Option Transaction :=
  (allInstrs.find? fun i => writeInstr i = l).map fun i => .cmd (encode i)

/-- The operand of `LD IBUF`: a string, then at most blanks and a comment. -/
def readLoad (l : Line) : Option Transaction :=
  match l with
  | '"' :: rest =>
    match readString rest with
    | some (s, after) => if stripEnd after = [] then some (.ldIbuf s) else none
    | none => none
  | _ => none

/-- The index of `RD OBUF[j]`, up to the closing bracket, with or without `0x` (`readNumber`; DESIGN CHOICE, assumption
20). -/
def readIndex (l : Line) : Option Transaction :=
  if l.getLast? = some ']' then (readNumber l.dropLast).map .rdObufAt else none

/-- The line forms with an operand, tried by their beginnings. -/
def readWithOperand (l : Line) : Option Transaction :=
  match afterPrefix ['W', 'R', ' ', 'B', 'L', 'K', ',', ' '] l,
      afterPrefix ['R', 'D', ' ', 'O', 'B', 'U', 'F', '['] l, afterPrefix ['C', 'M', 'D', ' '] l with
  | some v, _, _ => (readBits 64 v).map .wrBlk
  | _, some j, _ => readIndex j
  | _, _, some c => (readBits 8 c).map .cmd
  | _, _, _ => readMnemonic l

/-- One line of a program (30_encoding R80). DESIGN CHOICE, assumption 20: a line that is empty, or holds only blanks and a
comment, of which R80 says nothing, is no transaction and answers `none`, as a malformed line does. -/
def readLine (l : Line) : Option Transaction :=
  match afterPrefix ['L', 'D', ' ', 'I', 'B', 'U', 'F', ',', ' '] (l.dropWhile (· = ' ')) with
  | some operand => readLoad operand
  | none =>
    let body := stripEnd (l.dropWhile (· = ' '))
    if body = ['R', 'D', ' ', 'B', 'L', 'K'] then some .rdBlk
    else if body = ['R', 'D', ' ', 'I', 'L', 'E', 'N'] then some .rdIlen
    else if body = ['R', 'D', ' ', 'O', 'L', 'E', 'N'] then some .rdOlen
    else if body = ['R', 'D', ' ', 'O', 'B', 'U', 'F'] then some .rdObuf
    else if body = ['R', 'D', ' ', 'S', 'T', 'A', 'T', 'U', 'S'] then some .rdStatus
    else readWithOperand body

/-- "The encoding of a program is the sequence of its CMD words" (30_encoding R80). -/
def programWords (p : List Transaction) : List Byte :=
  p.filterMap fun t =>
    match t with
    | .cmd c => some c
    | _ => none

end Sys2Proof.Machine
end

