-- ==== Sys2Proof/Machine/Instances.lean ====
section
/-! DEFINITION. `N_INST` instances side by side (10_state R35, 60_exceptions R218): each has its own copy of all the
state, and the host picks one only by the bus address it uses (assumptions 8 and 9). -/

namespace Sys2Proof.Machine

/-- One access of the host: a transaction at a bus address. -/
structure Access where
  address : Nat
  transaction : Transaction
  deriving DecidableEq, Repr

/-- The instances, and the accesses the host will make, oldest first. -/
structure System where
  insts : List State
  accesses : List Access
  deriving DecidableEq, Repr

/-- All instances start in the reset state independently (60_exceptions R218). -/
def System.reset (accesses : List Access) : System := ⟨List.replicate Config.nInst State.reset, accesses⟩

/-- The bus address of a transaction with instance `n`: that of the port it uses (20_memory R52, R56). -/
def busAddress (map : PortMap) (n : Nat) (t : Transaction) : Nat := map.address n (portOf t)

/-- The access is to a port of instance `n`, and to the port that its transaction uses. -/
def Access.reaches (map : PortMap) (n : Nat) (a : Access) : Bool := busAddress map n a.transaction = a.address

/-- The instance an access is to, among `count` of them: "each is identified only by which ports the host addresses"
(60_exceptions R218). `PortMap.separates` leaves at most one. -/
def addressed (map : PortMap) (count : Nat) (a : Access) : Option Nat :=
  (List.range count).find? fun n => a.reaches map n

/-- The transactions of those accesses that reach instance `n`, in order. -/
def transactionsOf (map : PortMap) (n : Nat) (accesses : List Access) : List Transaction :=
  (accesses.filter (Access.reaches map n)).map Access.transaction

/-- One access: the addressed instance makes one step, with this transaction; the others do not move (10_state R35). -/
def systemStep (map : PortMap) (m : System) : Host.Outcome System Fault Refusal :=
  match m.accesses with
  | [] => .next m
  | a :: rest =>
    match addressed map m.insts.length a with
    | none => .refused .noSuchInstance
    | some n =>
      match m.insts[n]? with
      | none => .refused .noSuchInstance
      | some s =>
        match step (issueTransaction a.transaction s) with
        | .next s' => .next ⟨m.insts.set n s', rest⟩
        | .fault r => .fault r
        | .refused r => .refused r

/-- One access on the platform the instances are built into. -/
def platformStep (m : System) : Host.Outcome System Fault Refusal := systemStep Config.portMap m

/-- All the accesses, stopping at the first refusal. -/
def systemRun (map : PortMap) (insts : List State) (accesses : List Access) : Host.Outcome System Fault Refusal :=
  match accesses with
  | [] => .next ⟨insts, []⟩
  | a :: rest =>
    match systemStep map ⟨insts, a :: rest⟩ with
    | .next m => systemRun map m.insts rest
    | .fault r => .fault r
    | .refused r => .refused r

end Sys2Proof.Machine
end

