-- ==== Sys2Proof/Safety.lean ====
section
/-! DEFINITION. What counts as a state in good order and as a safe step, and the spec's own functions and relations
that claims are stated in. -/

/-- The other direction. -/
def Sys2Proof.Direction.opposite (d : Sys2Proof.Direction) : Sys2Proof.Direction :=
  match d with
  | .encrypt => .decrypt
  | .decrypt => .encrypt

namespace Sys2Proof.Machine

/-- The facts the spec gives of the state between transactions: both buffers are sequences (20_memory R52), OLEN is "a
multiple of 8" and `ILEN <= IBUF_CAP` (10_state R20). -/
structure State.Inv (s : State) : Prop where
  ibuf_wf : s.ibuf.wf
  obuf_wf : s.obuf.wf
  olen_blocks : 8 ∣ s.olen
  ilen_fits : fitsIbuf s.par.ibufCap s.ilen = true

/-- A safe step: the machine answers a next state. -/
def State.stepsSafely (s : State) : Prop := ∃ t, step s = .next t

/-- Both buffers hold the same elements at the same indices. -/
def SameBuffers (s t : State) : Prop :=
  (∀ a, t.ibuf.read a = s.ibuf.read a) ∧ (∀ a, t.obuf.read a = s.obuf.read a) ∧ t.ilen = s.ilen ∧ t.olen = s.olen

/-- Neither the constants nor the host's side of the ports differ. -/
def SameSurroundings (s t : State) : Prop := t.par = s.par ∧ t.host = s.host ∧ t.returns = s.returns

/-- `SHIFT[0] + ... + SHIFT[i]` (41_key_schedule R121). -/
def shiftSum (t : TableSet) (i : Nat) : Nat := (t.shift.toList.take (i + 1)).sum

/-- The key generated in iteration `i`: the initial halves rotated left by `SHIFT[0] + ... + SHIFT[i]` bits in all,
then compressed (41_key_schedule R121, R123). -/
def iterationKey (t : TableSet) (subkey : Block) (i : Nat) : RoundKey :=
  perm t.pc2 (rotl28 (perm t.pc1c subkey) (shiftSum t i) ++ rotl28 (perm t.pc1d subkey) (shiftSum t i))

/-- Where iteration `i`'s key goes, and from which iteration position `i`'s key comes (41_key_schedule R122). -/
def iterationAt (d : Direction) (i : Nat) : Nat :=
  match d with
  | .encrypt => i
  | .decrypt => 15 - i

/-- `rev(sch)[i] = sch[15 - i]` (42_block_transform R148). -/
def reversed (sched : Schedule) : Schedule := Vector.ofFn fun i => sched[15 - i.val]

/-- The halves after sixteen uniform rounds (42_block_transform R142). -/
def uniformRounds (t : TableSet) (block : Block) (sched : Schedule) : Halves :=
  sched.toList.foldl (feistelRound t) (initialHalves t block)

/-- `Enc(k, b)` and `Dec(k, b)` (43_triple_chaining R161). -/
def cipherWith (t : TableSet) (d : Direction) (subkey b : Block) : Block :=
  transform t b (generateSchedule t subkey d)

/-- Byte `j` of the Block that chunk `k` of the decoded bytes decrypts to (44_payload_decoder R176). -/
def decryptedByte (t : TableSet) (key : CipherKey) (b : List Byte) (k j : Nat) : Byte :=
  (tripleTransform t (be 8 ((b.drop (8 * k)).take 8)) (tripleSetup t key .decrypt)).extractLsb' (56 - 8 * j) 8

end Sys2Proof.Machine
end

