-- ==== Sys2Proof/Certificates/Slice0/Obligations.lean ====
section
/-! DEFINITION. The statements for the provers. Each docstring names the rules it formalises. -/

open Sys2Proof Sys2Proof.Machine

/-! ### Encoding (30_encoding) -/

/-- 30_encoding R71, R76: every command has exactly one word, and that word decodes to it. -/
def Obligations.EveryCommandHasExactlyOneWord : Prop :=
  ∀ (i : Instr) (c : Byte), decode c = .ok i ↔ c = encode i

/-- 30_encoding R76: the 25 legal words, complete, and which command each is. -/
def Obligations.OpcodeMapIsComplete : Prop :=
  (∀ c : Byte, (∃ i, decode c = .ok i) ↔
    c ∈ [0x22#8, 0x23#8, 0x24#8, 0x25#8, 0x26#8, 0x27#8, 0x2A#8, 0x2B#8, 0x2C#8, 0x2D#8, 0x2E#8, 0x2F#8, 0x32#8,
      0x33#8, 0x34#8, 0x35#8, 0x36#8, 0x37#8, 0x40#8, 0x48#8, 0x50#8, 0x60#8, 0x61#8, 0x80#8, 0xA0#8]) ∧
  (∀ (n : Slot) (k : SubKey),
    decode (BitVec.ofNat 8 (0x20 + 8 * n.val + 2 * (subKeyIndex k + 1))) = .ok (.ksched n k .encrypt) ∧
    decode (BitVec.ofNat 8 (0x20 + 8 * n.val + 2 * (subKeyIndex k + 1) + 1)) = .ok (.ksched n k .decrypt)) ∧
  decode 0x40#8 = .ok (.xform 0) ∧ decode 0x48#8 = .ok (.xform 1) ∧ decode 0x50#8 = .ok (.xform 2) ∧
  decode 0x60#8 = .ok (.tsetup .encrypt) ∧ decode 0x61#8 = .ok (.tsetup .decrypt) ∧
  decode 0x80#8 = .ok .txform ∧ decode 0xA0#8 = .ok .decode

/-- 30_encoding R71 against R72, R73, R74: the decoder accepts exactly the words whose fields are legal one by one. -/
def Obligations.DecoderAcceptsExactlyTheLegalFields : Prop :=
  ∀ c : Byte, (∃ i, decode c = .ok i) ↔ (fieldsOf c).wellFormed = true

/-- Words written out from the spec's own decode table (95_test_vectors V60): one of every command, and one reserved
word for each reason. -/
def Obligations.SampleWordsDecodeAsListed : Prop :=
  decode 0b00101101#8 = .ok (.ksched 1 .k2 .decrypt) ∧ decode 0b00110111#8 = .ok (.ksched 2 .k3 .decrypt) ∧
  decode 0b01001000#8 = .ok (.xform 1) ∧ decode 0b01100001#8 = .ok (.tsetup .decrypt) ∧
  decode 0b10000000#8 = .ok .txform ∧ decode 0b10100000#8 = .ok .decode ∧
  decode 0b00000000#8 = .error .operation ∧ decode 0b00111000#8 = .error .slot ∧
  decode 0b00100000#8 = .error .subKey ∧ decode 0b01000001#8 = .error .direction

/-- 30_encoding R77, 60_exceptions R201: a word with an illegal field raises IllegalCommand and changes no state but
ERR; there are 231 of them. -/
def Obligations.ReservedWordRaisesIllegalCommand : Prop :=
  ((List.range 256).filter fun w => (fieldsOf (BitVec.ofNat 8 w)).wellFormed = false).length = 231 ∧
  ∀ (s : State) (c : Byte), (fieldsOf c).wellFormed = false →
    command c s = .next { s with err := .illegalCommand }

/-- 30_encoding R80: every line that stands for a command word reads back as that word. The lexical conventions are the
model's own, assumption 20. -/
def Obligations.CommandLinesReadBack : Prop :=
  ∀ c : Byte, readLine (writeLine (.cmd c)) = some (.cmd c)

/-! ### One step (20_memory R57; the host's queue is assumption 4) -/

/-- When the host's next transaction is the word of a command, the step is that command, on the state whose host has
issued it. The queue is the model's own choice, assumption 4. -/
def Obligations.StepRunsTheDecodedCommand : Prop :=
  ∀ (s : State) (c : Byte) (i : Instr) (rest : List Transaction), s.host = .cmd c :: rest → decode c = .ok i →
    step s = exec i { s with host := rest }

/-- 60_exceptions R217: with no host transaction to issue the block is idle and all state survives. That such a step
exists is the model's own choice, assumption 4. -/
def Obligations.IdleBlockKeepsItsState : Prop := ∀ s : State, s.host = [] → step s = .next s

/-- 20_memory R56: every transaction with its precondition, effect and answer. That the host's transactions wait in a
queue and its answers are kept in a list is the model's own choice, assumptions 4 and 5. -/
def Obligations.HostTransactionTable : Prop :=
  ∀ (s : State) (rest : List Transaction),
    (∀ v, s.host = .wrBlk v :: rest → step s = .next { s with host := rest, blk := v, bv := true }) ∧
    (s.host = .rdBlk :: rest → s.bv = true →
      step s = .next { s with host := rest, returns := s.returns ++ [.block s.blk] }) ∧
    (s.host = .rdBlk :: rest → s.bv = false → step s = .refused .blockUnwritten) ∧
    (∀ str, s.host = .ldIbuf str :: rest → fitsIbuf s.par.ibufCap str.length = true →
      ∃ m : Memory, step s = .next { s with host := rest, ibuf := m } ∧ m.length = str.length ∧ ∀ a, m.read a = str[a]?) ∧
    (∀ c, s.host = .ldIbuf c :: rest → fitsIbuf s.par.ibufCap c.length = false → step s = .refused .loadTooLong) ∧
    (s.host = .rdIlen :: rest → step s = .next { s with host := rest, returns := s.returns ++ [.length s.ilen] }) ∧
    (s.host = .rdOlen :: rest → step s = .next { s with host := rest, returns := s.returns ++ [.length s.olen] }) ∧
    (s.host = .rdObuf :: rest → s.obuf.wf →
      ∃ b : List Byte, step s = .next { s with host := rest, returns := s.returns ++ [.bytes b] } ∧
        b.length = s.olen ∧ ∀ a, b[a]? = s.obuf.read a) ∧
    (∀ j, s.host = .rdObufAt j :: rest → s.obuf.wf → j < s.olen →
      ∃ b : Byte, s.obuf.read j = some b ∧
        step s = .next { s with host := rest, returns := s.returns ++ [.byte b] }) ∧
    (∀ j, s.host = .rdObufAt j :: rest → s.obuf.wf → s.olen ≤ j → step s = .refused .noSuchOutputElement) ∧
    (s.host = .rdStatus :: rest → step s = .next { s with host := rest, returns := s.returns ++ [.status s.status] }) ∧
    (∀ code, s.host = .cmd code :: rest → step s = command code { s with host := rest })

/-- 10_state R27: the STATUS byte, its value after reset, and that reading it changes nothing of the block. -/
def Obligations.StatusByteLayout : Prop :=
  (∀ s : State, s.status.extractLsb' 0 4 = s.err.code ∧ s.status.getLsbD 4 = s.sv[0] ∧ s.status.getLsbD 5 = s.sv[1] ∧
    s.status.getLsbD 6 = s.sv[2] ∧ s.status.getLsbD 7 = s.bv) ∧
  State.reset.status = 0#8 ∧
  ∀ (s t : State) (rest : List Transaction), s.host = .rdStatus :: rest → step s = .next t →
    t = { s with host := rest, returns := s.returns ++ [.status s.status] }

/-- The machine stops only at the three moves the spec refuses (93 U4, U5, U13), each under its own name. That a refusal
stops the machine is the model's own choice, assumption 19. -/
def Obligations.StepStopsOnlyAtRefusedMoves : Prop :=
  ∀ s : State, (∃ t, step s = .next t) ∨
    (∃ rest, s.host = .rdBlk :: rest ∧ s.bv = false ∧ step s = .refused .blockUnwritten) ∨
    (∃ j rest, s.host = .rdObufAt j :: rest ∧ s.obuf.read j = none ∧ step s = .refused .noSuchOutputElement) ∨
    (∃ c rest, s.host = .ldIbuf c :: rest ∧ fitsIbuf s.par.ibufCap c.length = false ∧ step s = .refused .loadTooLong)

/-! ### Errors (10_state R28, 60_exceptions) -/

/-- 60_exceptions R204: what each raise leaves, all of it. -/
def Obligations.RaiseTable : Prop :=
  ∀ s : State,
    (raise .invalidHex s = { s with err := .invalidHex, obuf := [] } ∧ Err.invalidHex.code = 1#4) ∧
    (raise .illegalCommand s = { s with err := .illegalCommand } ∧ Err.illegalCommand.code = 2#4) ∧
    (raise .slotNotReady s = { s with err := .slotNotReady } ∧ Err.slotNotReady.code = 3#4) ∧
    (raise .blockNotReady s = { s with err := .blockNotReady } ∧ Err.blockNotReady.code = 4#4)

/-- 10_state R28: the values of ERR; every command ends with ERR 0 or in the outcome of a raise; no command's result
depends on ERR; host loads, reads and writes never change it. -/
def Obligations.ErrIsWrittenByEveryCommandAndReadByNone : Prop :=
  (Err.ok.code = 0#4 ∧ ∀ e : Err, e.code < 5#4) ∧
  (∀ (c : Byte) (s : State), ∃ t, command c s = .next t ∧ (t.err = .ok ∨ ∃ x, t = raise x s)) ∧
  (∀ (c : Byte) (s : State) (e : Err), command c { s with err := e } = command c s) ∧
  ∀ (x : Transaction) (s t : State), (∀ c, x ≠ .cmd c) → transact x s = .next t → t.err = s.err

/-- 60_exceptions R202, R203, with the order of R207: when XFORM and TXFORM raise, and that only ERR changes. -/
def Obligations.NotReadyErrors : Prop :=
  ∀ s : State,
    (∀ n : Slot, s.bv = false → exec (.xform n) s = .next { s with err := .blockNotReady }) ∧
    (∀ n : Slot, s.bv = true → s.sv[n] = false → exec (.xform n) s = .next { s with err := .slotNotReady }) ∧
    (s.bv = false → exec .txform s = .next { s with err := .blockNotReady }) ∧
    (s.bv = true → (∃ n : Slot, s.sv[n] = false) → exec .txform s = .next { s with err := .slotNotReady })

/-! ### Primitives (40_tables_and_primitives, 00_scope) -/

/-- 40 R90: position `j` of the result is position `T[j]` of the input. -/
def Obligations.PermSelectsPositions : Prop :=
  ∀ (n w : Nat) (t : Vector Nat n) (v : BitVec w) (j : Nat) (h : j < n), bitm (perm t v) (j + 1) = bitm v t[j]

/-- 40 R91: a bijection on 1..W and its inverse cancel, both ways. -/
def Obligations.InverseTableUndoesATable : Prop :=
  ∀ (w : Nat) (t : Vector Nat w) (v : BitVec w), entriesWithin t.toList w → t.toList.Nodup →
    (∀ (j : Nat) (h : j < w), (inverse t).toList[t[j] - 1]? = some (j + 1)) ∧
    perm (inverse t) (perm t v) = v ∧ perm t (perm (inverse t) v) = v

/-- 40 R96, R91: of every well-formed table set FP is the inverse of IP, and the two permutations cancel. -/
def Obligations.FinalPermutationUndoesTheInitial : Prop :=
  ∀ (t : TableSet) (v : Block), t.WellFormed →
    t.fp = inverse t.ip ∧ perm t.fp (perm t.ip v) = v ∧ perm t.ip (perm t.fp v) = v

/-- 40 R92, R110 (b): the rotation is the one the spec writes out, rotations add up, and 28 single steps are none. R92
defines the amounts 1 and 2; that the sum law holds for every other amount is the model's own choice, assumption 21. -/
def Obligations.RotationIsCircularOver28Bits : Prop :=
  (∀ v : KeyHalf, rotl28 v 1 = (v.extractLsb' 0 27 ++ v.extractLsb' 27 1 : BitVec (27 + 1)) ∧
    rotl28 v 2 = (v.extractLsb' 0 26 ++ v.extractLsb' 26 2 : BitVec (26 + 2))) ∧
  (∀ (v : KeyHalf) (a b : Nat), rotl28 (rotl28 v a) b = rotl28 v (a + b)) ∧
  ∀ v : KeyHalf, (List.replicate 28 1).foldl rotl28 v = v

/-- 40 R93: the two forms of the S-box index agree, and it is a bijection on 0..63. -/
def Obligations.BoxIndexIsRowThenColumn : Prop :=
  (∀ g : BitVec 6,
    (sidx g).toNat = 16 * (2 * (g.getLsbD 5).toNat + (g.getLsbD 0).toNat) + (g.extractLsb' 1 4).toNat ∧
    sidx g = (g &&& 0x20#6) ||| ((g &&& 0x01#6) <<< 4) ||| ((g >>> 1) &&& 0x0F#6)) ∧
  Function.Bijective sidx ∧ (sidx 0b011011#6).toNat = 29

/-- 00_scope R8, 20_memory R50: `be` puts byte 0 first and most significant, and `bytes_be` is its inverse. -/
def Obligations.BytesAndBitsCorrespond : Prop :=
  (∀ (n : Nat) (b : List Byte), b.length = n → bytesBe n (be n b) = b) ∧
  ∀ (n : Nat) (v : BitVec (8 * n)), be n (bytesBe n v) = v

/-- 00_scope R10, 30_encoding R73: the sub-keys are KEY[0..8), KEY[8..16), KEY[16..24), first byte most significant. -/
def Obligations.SubKeysAreTheThirdsOfTheKey : Prop :=
  ∀ (key : CipherKey) (j : Nat) (h : j < 8),
    (bytesBe 8 (subKey key .k1))[j]? = some key[j] ∧ (bytesBe 8 (subKey key .k2))[j]? = some key[8 + j] ∧
    (bytesBe 8 (subKey key .k3))[j]? = some key[16 + j]

/-- 40 R108: the two reference table sets are well formed and differ in one entry, which the group 101011 reaches. -/
def Obligations.ReferenceTablesDifferInOneEntry : Prop :=
  tablesStdSet.WellFormed ∧ tablesSrcSet.WellFormed ∧
  { tablesSrcSet with s := tablesStdSet.s } = tablesStdSet ∧
  (∀ (j : Fin 8) (g : BitVec 6), sbox tablesSrcSet j g ≠ sbox tablesStdSet j g ↔ j = 3 ∧ g = 0b101011#6) ∧
  sbox tablesStdSet 3 0b101011#6 = 1#4 ∧ sbox tablesSrcSet 3 0b101011#6 = 10#4 ∧ (sidx 0b101011#6).toNat = 53

/-! ### Key schedule (41_key_schedule) -/

/-- 41 R120, R121, R122, R123: position `i` holds the key of iteration `i` (encrypt) or `15 - i` (decrypt), and the key
of iteration `i` is compressed from halves rotated by the sum of the first `i + 1` shifts. -/
def Obligations.ScheduleHoldsTheIterationKeys : Prop :=
  ∀ (t : TableSet) (k : Block) (i : Nat) (h : i < 16),
    (generateSchedule t k .encrypt)[i] = iterationKey t k i ∧
    (generateSchedule t k .decrypt)[i] = iterationKey t k (15 - i) ∧
    (generateSchedule t k .decrypt)[i] = (generateSchedule t k .encrypt)[15 - i]

/-- 41 R130: a sub-key bit whose position stands in neither PC1C nor PC1D has no effect; under the reference tables
those are the least significant bits of the bytes. -/
def Obligations.UnselectedSubKeyBitsHaveNoEffect : Prop :=
  (∀ (t : TableSet) (k1 k2 : Block) (d : Direction),
    (∀ p, p ∈ t.pc1c.toList ∨ p ∈ t.pc1d.toList → bitm k1 p = bitm k2 p) →
    generateSchedule t k1 d = generateSchedule t k2 d) ∧
  ∀ (k1 k2 : Block) (d : Direction),
    (∀ p, 1 ≤ p → p ≤ 64 → p ∉ [8, 16, 24, 32, 40, 48, 56, 64] → bitm k1 p = bitm k2 p) →
    generateSchedule tablesStdSet k1 d = generateSchedule tablesStdSet k2 d ∧
    generateSchedule tablesSrcSet k1 d = generateSchedule tablesSrcSet k2 d

/-- 41 R131: under the reference tables SHIFT sums to 28; a sub-key whose halves are each all zeros or all ones gives
sixteen equal round keys, the same in both directions. -/
def Obligations.ConstantHalvesGiveEqualKeys : Prop :=
  tablesStdSet.shift.toList.sum = 28 ∧ tablesSrcSet.shift.toList.sum = 28 ∧
  ∀ (t : TableSet) (k : Block),
    (perm t.pc1c k = 0#28 ∨ perm t.pc1c k = BitVec.allOnes 28) →
    (perm t.pc1d k = 0#28 ∨ perm t.pc1d k = BitVec.allOnes 28) →
    ∀ (d d' : Direction) (i j : Nat) (hi : i < 16) (hj : j < 16),
      (generateSchedule t k d)[i] = (generateSchedule t k d')[j]

/-- 41 R125, R120: KSCHED completes in every state and leaves its slot holding the iteration keys of its sub-key in its
direction, the slot valid and ERR 0. -/
def Obligations.KschedFillsItsSlot : Prop :=
  ∀ (s : State) (n : Slot) (k : SubKey) (d : Direction), ∃ t, exec (.ksched n k d) s = .next t ∧
    (∀ (i : Nat) (h : i < 16),
      t.sched[n][i] = iterationKey s.par.tables.set (subKey s.par.key k) (iterationAt d i)) ∧
    t.sv[n] = true ∧ t.err = .ok

/-! ### Block transform (42_block_transform) -/

/-- 42 R135, R136: the round function, group by group. -/
def Obligations.RoundFunctionByGroups : Prop :=
  ∀ (t : TableSet) (half : Half) (rk : RoundKey), ∃ y : Half, roundFunction t half rk = perm t.p y ∧
    ∀ j : Fin 8, y.extractLsb' (28 - 4 * j.val) 4 =
      sbox t j ((perm t.e half ^^^ rk).extractLsb' (42 - 6 * j.val) 6)

/-- 42 R140, R141: the transform, for any sequence of halves that follows the rounds 0 to 14. -/
def Obligations.TransformFollowsTheRounds : Prop :=
  ∀ (t : TableSet) (block : Block) (sched : Schedule) (h : Nat → Halves),
    h 0 = ⟨(perm t.ip block).extractLsb' 32 32, (perm t.ip block).extractLsb' 0 32⟩ →
    (∀ (r : Nat) (hr : r < 15), h (r + 1) = ⟨(h r).r, roundFunction t (h r).r sched[r] ^^^ (h r).l⟩) →
    transform t block sched = perm t.fp (((h 15).l ^^^ roundFunction t (h 15).r sched[15]) ++ (h 15).r)

/-- 42 R142: the finalising round is a sixteenth uniform round whose swap is undone. -/
def Obligations.FinalisingRoundUndoesItsSwap : Prop :=
  ∀ (t : TableSet) (block : Block) (sched : Schedule),
    transform t block sched = perm t.fp ((uniformRounds t block sched).r ++ (uniformRounds t block sched).l)

/-- 42 R148: for every well-formed table set the reversed schedule undoes a transform, whatever the schedule, and so
the two directions of one sub-key undo each other. -/
def Obligations.ReversedScheduleInvertsTheTransform : Prop :=
  ∀ t : TableSet, t.WellFormed →
    (∀ (b : Block) (sched : Schedule), transform t (transform t b sched) (reversed sched) = b) ∧
    (∀ (b k : Block) (d : Direction), cipherWith t d.opposite k (cipherWith t d k b) = b)

/-- 42 R145: XFORM completes when the block and its slot are ready, and changes only BLK and ERR. -/
def Obligations.XformTransformsTheBlock : Prop :=
  ∀ (s : State) (n : Slot), s.bv = true → s.sv[n] = true →
    exec (.xform n) s = .next { s with blk := transform s.par.tables.set s.blk s.sched[n], err := .ok }

/-- 42 R145 (corner cases) over R148: KSCHED, XFORM, then KSCHED and XFORM in the other direction with the same sub-key
restore BLK, for any two slots, equal ones too. -/
def Obligations.OppositeSchedulesRestoreTheBlock : Prop :=
  ∀ (s : State) (n m : Slot) (k : SubKey) (d : Direction), s.bv = true →
    ∃ s1 s2 s3 s4, exec (.ksched n k d) s = .next s1 ∧ exec (.xform n) s1 = .next s2 ∧
      exec (.ksched m k d.opposite) s2 = .next s3 ∧ exec (.xform m) s3 = .next s4 ∧ s4.blk = s.blk ∧ s4.err = .ok

/-! ### Triple chaining (43_triple_chaining) -/

/-- 43 R155, R156: TSETUP completes in every state and fills the three slots by the table of its mode. -/
def Obligations.TsetupFillsTheSlots : Prop :=
  ∀ s : State,
    (∃ t, exec (.tsetup .encrypt) s = .next t ∧
      t.sched[0] = generateSchedule s.par.tables.set (subKey s.par.key .k1) .encrypt ∧
      t.sched[1] = generateSchedule s.par.tables.set (subKey s.par.key .k2) .decrypt ∧
      t.sched[2] = generateSchedule s.par.tables.set (subKey s.par.key .k3) .encrypt ∧
      (∀ n : Slot, t.sv[n] = true) ∧ t.err = .ok) ∧
    (∃ t, exec (.tsetup .decrypt) s = .next t ∧
      t.sched[0] = generateSchedule s.par.tables.set (subKey s.par.key .k3) .decrypt ∧
      t.sched[1] = generateSchedule s.par.tables.set (subKey s.par.key .k2) .encrypt ∧
      t.sched[2] = generateSchedule s.par.tables.set (subKey s.par.key .k1) .decrypt ∧
      (∀ n : Slot, t.sv[n] = true) ∧ t.err = .ok)

/-- 30_encoding R81: TSETUP leaves the same state as three KSCHED words. -/
def Obligations.TsetupEqualsThreeKsched : Prop :=
  ∀ s : State,
    (∃ s1 s2 s3, command 0x22#8 s = .next s1 ∧ command 0x2D#8 s1 = .next s2 ∧ command 0x36#8 s2 = .next s3 ∧
      command 0x60#8 s = .next s3) ∧
    (∃ s1 s2 s3, command 0x27#8 s = .next s1 ∧ command 0x2C#8 s1 = .next s2 ∧ command 0x33#8 s2 = .next s3 ∧
      command 0x61#8 s = .next s3)

/-- 43 R160, R158: TXFORM completes when the block and the three slots are ready, and changes only BLK and ERR. -/
def Obligations.TxformAppliesTheSlotsInOrder : Prop :=
  ∀ s : State, s.bv = true → (∀ n : Slot, s.sv[n] = true) →
    exec .txform s = .next { s with
      blk := transform s.par.tables.set (transform s.par.tables.set (transform s.par.tables.set s.blk s.sched[0])
        s.sched[1]) s.sched[2],
      err := .ok }

/-- 43 R160 (corner cases): TXFORM equals XFORM 0, XFORM 1, XFORM 2 when all complete. -/
def Obligations.TxformEqualsThreeXform : Prop :=
  ∀ s : State, s.bv = true → (∀ n : Slot, s.sv[n] = true) →
    ∃ s1 s2 s3, exec (.xform 0) s = .next s1 ∧ exec (.xform 1) s1 = .next s2 ∧ exec (.xform 2) s2 = .next s3 ∧
      exec .txform s = .next s3

/-- 43 R161: TSETUP then TXFORM computes the encrypt-decrypt-encrypt composition, or its decrypting counterpart. -/
def Obligations.TripleComposition : Prop :=
  ∀ s : State, s.bv = true →
    (∃ s1 s2, exec (.tsetup .encrypt) s = .next s1 ∧ exec .txform s1 = .next s2 ∧
      s2.blk = cipherWith s.par.tables.set .encrypt (subKey s.par.key .k3)
        (cipherWith s.par.tables.set .decrypt (subKey s.par.key .k2)
          (cipherWith s.par.tables.set .encrypt (subKey s.par.key .k1) s.blk))) ∧
    (∃ s1 s2, exec (.tsetup .decrypt) s = .next s1 ∧ exec .txform s1 = .next s2 ∧
      s2.blk = cipherWith s.par.tables.set .decrypt (subKey s.par.key .k1)
        (cipherWith s.par.tables.set .encrypt (subKey s.par.key .k2)
          (cipherWith s.par.tables.set .decrypt (subKey s.par.key .k3) s.blk)))

/-- 43 R163: the round trip of a sequence of blocks, for any key and any well-formed table set, in either order. -/
def Obligations.TripleRoundTrip : Prop :=
  ∀ (t : TableSet) (key : CipherKey) (m : Mode) (data : List Block), t.WellFormed →
    (data.map fun b => tripleTransform t b (tripleSetup t key m)).map
      (fun b => tripleTransform t b (tripleSetup t key m.opposite)) = data

/-- 43 R163, R164: at the machine, TSETUP and TXFORM in one mode and then in the other restore BLK. -/
def Obligations.OppositeModesRestoreTheBlock : Prop :=
  ∀ (s : State) (m : Mode), s.bv = true →
    ∃ s1 s2 s3 s4, exec (.tsetup m) s = .next s1 ∧ exec .txform s1 = .next s2 ∧
      exec (.tsetup m.opposite) s2 = .next s3 ∧ exec .txform s3 = .next s4 ∧ s4.blk = s.blk ∧ s4.err = .ok

/-- 43 R165: equal sub-keys cancel. -/
def Obligations.EqualSubKeysCancel : Prop :=
  ∀ (t : TableSet) (key : CipherKey) (b : Block), t.WellFormed →
    (subKey key .k1 = subKey key .k2 → ∀ m : Mode,
      tripleTransform t b (tripleSetup t key m) = cipherWith t m (subKey key .k3) b) ∧
    (subKey key .k2 = subKey key .k3 → ∀ m : Mode,
      tripleTransform t b (tripleSetup t key m) = cipherWith t m (subKey key .k1) b)

/-! ### Payload decoder (44_payload_decoder) -/

/-- 44 R170: the 22 hexadecimal digits and their values; every other character has none. -/
def Obligations.HexDigitTable : Prop :=
  (∀ i : Nat, i < 10 → hexval (BitVec.ofNat 8 (0x30 + i)) = some (BitVec.ofNat 4 i)) ∧
  (∀ i : Nat, i < 6 → hexval (BitVec.ofNat 8 (0x41 + i)) = some (BitVec.ofNat 4 (10 + i)) ∧
    hexval (BitVec.ofNat 8 (0x61 + i)) = some (BitVec.ofNat 4 (10 + i))) ∧
  ∀ c : Byte, hexval c ≠ none ↔
    (0x30 ≤ c.toNat ∧ c.toNat ≤ 0x39) ∨ (0x41 ≤ c.toNat ∧ c.toNat ≤ 0x46) ∨ (0x61 ≤ c.toNat ∧ c.toNat ≤ 0x66)

/-- 44 R171, R172: the hex decode fails exactly on an odd length or a character that is no digit; otherwise byte `i` is
made of characters `2i` and `2i + 1`, the first the high nibble. -/
def Obligations.HexDecodePairsCharacters : Prop :=
  (∀ s : List Byte, hexdecode s = none ↔ s.length % 2 = 1 ∨ ∃ c ∈ s, hexval c = none) ∧
  ∀ s b : List Byte, hexdecode s = some b → b.length = s.length / 2 ∧
    ∀ (i : Nat) (h : i < b.length), ∃ (x y : Byte) (u l : BitVec 4), s[2 * i]? = some x ∧ s[2 * i + 1]? = some y ∧
      hexval x = some u ∧ hexval y = some l ∧ b[i].toNat = 16 * u.toNat + l.toNat

/-- 44 R174: the chunks are consecutive, 8 bytes each, as many as fit; the rest is dropped. -/
def Obligations.ChunksDropTheRemainder : Prop :=
  ∀ b : List Byte, (chunks8 b).length = b.length / 8 ∧ (∀ c ∈ chunks8 b, c.length = 8) ∧
    (chunks8 b).flatten = b.take (8 * (b.length / 8))

/-- 44 R180, R176, R54: on a valid string DECODE completes, byte `8k + j` of the output is byte `j` of the decrypted
chunk `k`, and the output has no other element. -/
def Obligations.DecodeWritesTheDecryptedChunks : Prop :=
  ∀ (s : State) (b : List Byte), hexdecode s.ibuf.toSeq = some b →
    ∃ t, exec .decode s = .next t ∧ t.err = .ok ∧ t.olen = 8 * (b.length / 8) ∧
      (∀ k j : Nat, k < b.length / 8 → j < 8 →
        t.obuf.read (8 * k + j) = some (decryptedByte s.par.tables.set s.par.key b k j)) ∧
      ∀ a : Nat, 8 * (b.length / 8) ≤ a → t.obuf.read a = none

/-- 44 R181, 60_exceptions R200: a failed DECODE empties the output, sets ERR, and changes nothing else. -/
def Obligations.FailedDecodeEmptiesTheOutput : Prop :=
  ∀ s : State, (s.ilen % 2 = 1 ∨ ∃ c ∈ s.ibuf.toSeq, hexval c = none) →
    exec .decode s = .next { s with err := .invalidHex, obuf := [] }

/-- 44 R177, 43 R162: the length law; eight output bytes depend only on the sixteen characters they come from, wherever
in the string these stand; a bad character anywhere fails the whole decode. -/
def Obligations.DecodeFrontLengthAndIndependence : Prop :=
  (∀ (t : TableSet) (key : CipherKey) (s out : List Byte), decodeFront t key s = some out →
    out.length = 8 * (s.length / 2 / 8)) ∧
  (∀ (t : TableSet) (key : CipherKey) (s s' out out' : List Byte) (k k' : Nat),
    decodeFront t key s = some out → decodeFront t key s' = some out' →
    (s.drop (16 * k)).take 16 = (s'.drop (16 * k')).take 16 →
    (out.drop (8 * k)).take 8 = (out'.drop (8 * k')).take 8) ∧
  ∀ (t : TableSet) (key : CipherKey) (s : List Byte), (∃ c ∈ s, hexval c = none) → decodeFront t key s = none

/-- 44 R182, 10_state R31: DECODE's output and ERR depend on the input buffer and the constants alone: on no earlier
result, not on BLK, not on the slots. -/
def Obligations.DecodeReadsOnlyItsInput : Prop :=
  ∀ s s' : State, s.par = s'.par → s.ibuf = s'.ibuf →
    ∃ t t', exec .decode s = .next t ∧ exec .decode s' = .next t' ∧ t.obuf = t'.obuf ∧ t.err = t'.err

/-- 44 R180 (corner cases), 70 R235: a DECODE between the setup of the slots and a transform does not disturb it. -/
def Obligations.DecodeDoesNotDisturbTransforms : Prop :=
  ∀ s t : State, exec .decode s = .next t →
    ∀ i : Instr, i ≠ .decode → ∀ u v : State, exec i s = .next u → exec i t = .next v →
      v.blk = u.blk ∧ v.bv = u.bv ∧ v.sched = u.sched ∧ v.sv = u.sv ∧ v.err = u.err

/-! ### Frames -/

/-- 10_state R33 (rows KSCHED and TSETUP): nothing but SCHED, SV and ERR changes, and KSCHED leaves the other slots. -/
def Obligations.SlotCommandsFrame : Prop :=
  ∀ s t : State,
    (∀ (n : Slot) (k : SubKey) (d : Direction), exec (.ksched n k d) s = .next t →
      t.blk = s.blk ∧ t.bv = s.bv ∧ SameBuffers s t ∧ SameSurroundings s t ∧
      ∀ m : Slot, m ≠ n → t.sched[m] = s.sched[m] ∧ t.sv[m] = s.sv[m]) ∧
    (∀ m : Mode, exec (.tsetup m) s = .next t →
      t.blk = s.blk ∧ t.bv = s.bv ∧ SameBuffers s t ∧ SameSurroundings s t)

/-- 10_state R33 (rows XFORM and TXFORM): nothing but BLK and ERR changes, and BLK not when an error is raised. -/
def Obligations.BlockCommandsFrame : Prop :=
  ∀ s t : State, (exec .txform s = .next t ∨ ∃ n : Slot, exec (.xform n) s = .next t) →
    t.bv = s.bv ∧ t.sched = s.sched ∧ t.sv = s.sv ∧ SameBuffers s t ∧ SameSurroundings s t ∧
    (t.err ≠ .ok → t.blk = s.blk)

/-- 10_state R33 (row DECODE): nothing but OBUF, OLEN and ERR changes; every element of IBUF reads as before; OBUF is
replaced whole, so that no element is left at or past the new OLEN. -/
def Obligations.DecodeFrame : Prop :=
  ∀ s t : State, exec .decode s = .next t →
    t.blk = s.blk ∧ t.bv = s.bv ∧ t.sched = s.sched ∧ t.sv = s.sv ∧ SameSurroundings s t ∧
    (∀ a, t.ibuf.read a = s.ibuf.read a) ∧ t.ilen = s.ilen ∧ ∀ a, t.olen ≤ a → t.obuf.read a = none

/-! ### The whole machine -/

/-- 10_state R34, 70 R230: the reset state. What BLK and SCHED hold is unspecified, and nothing is said of it. A
platform's reset brings any state there and leaves the constants. -/
def Obligations.ResetState : Prop :=
  (State.reset.bv = false ∧ (∀ n : Slot, State.reset.sv[n] = false) ∧ State.reset.err = .ok ∧
    State.reset.ilen = 0 ∧ State.reset.olen = 0 ∧ State.reset.par = Config.parameters) ∧
  ∀ s : State, (platformReset s).bv = false ∧ (∀ n : Slot, (platformReset s).sv[n] = false) ∧
    (platformReset s).err = .ok ∧ (platformReset s).ilen = 0 ∧ (platformReset s).olen = 0 ∧
    (platformReset s).par = s.par

/-- The reset state is in good order. -/
def Obligations.ResetIsInGoodOrder : Prop := State.reset.Inv

/-- 10_state R20, R30, 20_memory R52: every step keeps both buffers canonical, OLEN a multiple of 8 and ILEN within
IBUF_CAP. -/
def Obligations.EveryStepKeepsGoodOrder : Prop := ∀ s t : State, s.Inv → step s = .next t → t.Inv

/-- 40 R97: no command and no host transaction writes TABLES or KEY (nor IBUF_CAP). That State carries them is the
model's own choice, assumption 1. -/
def Obligations.NothingWritesTheConstants : Prop :=
  ∀ (x : Transaction) (s t : State), transact x s = .next t →
    t.par.key = s.par.key ∧ t.par.tables = s.par.tables ∧ t.par.ibufCap = s.par.ibufCap

/-- 10_state R21, R25: once set, a valid bit stays; only a write of the block sets BV. -/
def Obligations.ValidBitsAreNeverCleared : Prop :=
  ∀ s t : State, step s = .next t →
    (s.bv = true → t.bv = true) ∧ (∀ n : Slot, s.sv[n] = true → t.sv[n] = true) ∧
    (s.bv = false → t.bv = true → ∃ v rest, s.host = .wrBlk v :: rest ∧ t.blk = v)

/-- 10_state R20, R33: which transactions can change which state. -/
def Obligations.EachStateHasItsWriters : Prop :=
  ∀ s t : State, step s = .next t →
    ((t.sched ≠ s.sched ∨ t.sv ≠ s.sv) → ∃ c rest, s.host = .cmd c :: rest ∧
      ((∃ n k d, decode c = .ok (.ksched n k d)) ∨ ∃ m, decode c = .ok (.tsetup m))) ∧
    (t.blk ≠ s.blk → (∃ v rest, s.host = .wrBlk v :: rest) ∨
      ∃ c rest, s.host = .cmd c :: rest ∧ ((∃ n, decode c = .ok (.xform n)) ∨ decode c = .ok .txform)) ∧
    (t.bv ≠ s.bv → ∃ v rest, s.host = .wrBlk v :: rest) ∧
    (t.ibuf ≠ s.ibuf → ∃ c rest, s.host = .ldIbuf c :: rest) ∧
    (t.obuf ≠ s.obuf → ∃ c rest, s.host = .cmd c :: rest ∧ decode c = .ok .decode) ∧
    (t.err ≠ s.err → ∃ c rest, s.host = .cmd c :: rest)

/-- 20_memory R54: KSCHED, TSETUP and DECODE issued twice in a row leave the same state as once. -/
def Obligations.PureCommandsAreIdempotent : Prop :=
  ∀ (s t : State) (i : Instr),
    ((∃ n k d, i = .ksched n k d) ∨ (∃ m, i = .tsetup m) ∨ i = .decode) → exec i s = .next t → exec i t = .next t

/-- 70 R232: from the reset state, writing the block and filling what is needed makes XFORM and TXFORM complete. -/
def Obligations.PreparedTransformsCompleteFromReset : Prop :=
  ∀ (v : Block) (n : Slot) (k : SubKey) (d : Direction) (m : Mode),
    (∃ t, core.run 3 { State.reset with
        host := [.wrBlk v, .cmd (encode (.ksched n k d)), .cmd (encode (.xform n))] } = .next t ∧ t.err = .ok ∧
      t.blk = cipherWith Config.tables.set d (subKey Config.key k) v) ∧
    (∃ t, core.run 3 { State.reset with
        host := [.cmd (encode (.tsetup m)), .wrBlk v, .cmd (encode .txform)] } = .next t ∧ t.err = .ok ∧
      t.blk = tripleTransform Config.tables.set v (tripleSetup Config.tables.set Config.key m))

/-- 60_exceptions R218, 20_memory R59, 10_state R35, for every port map: a transaction at a port's address of an instance
is a transaction of that instance, and moves no other; and any interleaving of the transactions of different instances
leaves each as if it ran alone, with those that address it. That one list orders all accesses is the model's own choice,
assumption 8; that no address belongs to two instances is deduced, assumption 9. -/
def Obligations.InstancesDoNotInteract : Prop :=
  ∀ (map : PortMap) (insts : List State),
    (∀ (n : Nat) (s s' : State) (t : Transaction) (rest : List Access), insts[n]? = some s → transact t s = .next s' →
      systemStep map ⟨insts, ⟨map.address n (portOf t), t⟩ :: rest⟩ = .next ⟨insts.set n s', rest⟩) ∧
    ∀ (accesses : List Access) (m : System), systemRun map insts accesses = .next m →
      m.insts.length = insts.length ∧
      ∀ (n : Nat) (s : State), insts[n]? = some s →
        ∃ s', m.insts[n]? = some s' ∧
          core.run (transactionsOf map n accesses).length { s with host := transactionsOf map n accesses ++ s.host } =
            .next s'
end

