-- ==== Sys2Proof/Laws/Functions.lean ====
section
/-! SUPPORT. The small facts of the pure functions: the bits of a permuted value, the positions of a schedule, the
lengths of byte sequences. -/

namespace Sys2Proof.Machine

/-- The bit of a permuted value at a position counted from 0 at the most significant end. -/
@[simp] theorem getMsbD_perm (t : Vector Nat n) (v : BitVec w) (j : Nat) (h : j < n) :
    (perm t v).getMsbD j = bitm v t[j] := by
  simp [perm, BitVec.getMsbD_ofFnBE, h]

/-- Position `i`, counted from 1 at the most significant end, as a bit index from that end. -/
theorem bitm_eq_getMsbD (v : BitVec w) (i : Nat) (h : 1 ≤ i) (h' : i ≤ w) : bitm v i = v.getMsbD (i - 1) := by
  rw [bitm, BitVec.getMsbD_eq_getLsbD]
  have h1 : i - 1 < w := by omega
  have h2 : w - 1 - (i - 1) = w - i := by omega
  simp [h1, h2]

@[simp] theorem getElem_generateSchedule_encrypt (t : TableSet) (k : Block) (i : Nat) (h : i < 16) :
    (generateSchedule t k .encrypt)[i] = (generatedKeys t k)[i] := rfl

@[simp] theorem getElem_generateSchedule_decrypt (t : TableSet) (k : Block) (i : Nat) (h : i < 16) :
    (generateSchedule t k .decrypt)[i] = (generatedKeys t k)[15 - i] := by
  simp [generateSchedule]

@[simp] theorem length_bytesBe (n : Nat) (v : BitVec (8 * n)) : (bytesBe n v).length = n := by simp [bytesBe]

@[simp] theorem length_chunks8 (b : List Byte) : (chunks8 b).length = b.length / 8 := by simp [chunks8]

@[simp] theorem length_decryptChunk (t : TableSet) (ts : TripleSchedule) (c : List Byte) :
    (decryptChunk t ts c).length = 8 := by simp [decryptChunk]

@[simp] theorem hexdecode_nil : hexdecode [] = some [] := rfl

theorem decodeFront_eq (t : TableSet) (key : CipherKey) (s : List Byte) :
    decodeFront t key s =
      (hexdecode s).map fun b => (chunks8 b).flatMap (decryptChunk t (tripleSetup t key .decrypt)) := by
  unfold decodeFront
  cases hexdecode s <;> rfl

end Sys2Proof.Machine
end

