-- ==== Sys2Proof/Laws/Instances.lean ====
section
/-! SUPPORT. Which instance an access is to. -/

namespace Sys2Proof.Machine

theorem Access.reaches_iff {map : PortMap} {n : Nat} {a : Access} :
    a.reaches map n = true ↔ busAddress map n a.transaction = a.address := by simp [Access.reaches]

/-- An access reaches one instance at most. -/
theorem Access.reaches_unique {map : PortMap} {n m : Nat} {a : Access} (hn : a.reaches map n = true)
    (hm : a.reaches map m = true) : n = m :=
  map.separates n m _ _ ((reaches_iff.1 hn).trans (reaches_iff.1 hm).symm)

/-- The addressed instance is exactly the one the access reaches. -/
theorem addressed_iff {map : PortMap} {count n : Nat} {a : Access} :
    addressed map count a = some n ↔ n < count ∧ a.reaches map n = true := by
  constructor
  · intro h
    exact ⟨List.mem_range.1 (List.mem_of_find?_eq_some h), List.find?_some (p := fun n => a.reaches map n) h⟩
  · rintro ⟨hlt, hr⟩
    cases h : addressed map count a with
    | none => simp_all [addressed]
    | some m => rw [Access.reaches_unique (List.find?_some (p := fun n => a.reaches map n) h) hr]

end Sys2Proof.Machine
end

