-- ==== Sys2Proof/Laws/Memory.lean ====
section
/-! SUPPORT. The buffer memories: the canonical form and what reading a replaced buffer gives. -/

namespace Sys2Proof.Machine

@[simp] theorem Memory.length_ofSeq (b : List Byte) : (Memory.ofSeq b).length = b.length := by
  simp [Memory.ofSeq]

/-- Replacing a buffer, its only write, gives the canonical form. -/
theorem Memory.wf_ofSeq (b : List Byte) : (Memory.ofSeq b).wf := by
  simp [Memory.wf, Memory.ofSeq, List.map_fst_zip]

@[simp] theorem Memory.toSeq_ofSeq (b : List Byte) : (Memory.ofSeq b).toSeq = b := by
  simp [Memory.toSeq, Memory.ofSeq, List.map_snd_zip]

@[simp] theorem Memory.length_toSeq (m : Memory) : m.toSeq.length = m.length := by simp [Memory.toSeq]

theorem Memory.eq_ofSeq_of_wf (m : Memory) (h : m.wf) : m = Memory.ofSeq m.toSeq := by
  unfold Memory.ofSeq
  rw [Memory.length_toSeq, ← h]
  simp [Memory.toSeq, List.zip_map', List.map_id']

theorem Memory.lookup_zip_range' (b : List Byte) (k a : Nat) :
    List.lookup a ((List.range' k b.length).zip b) = if k ≤ a then b[a - k]? else none := by
  induction b generalizing k with
  | nil => simp
  | cons x rest ih =>
    rw [List.length_cons, List.range'_succ, List.zip_cons_cons, List.lookup_cons]
    by_cases hak : a = k
    · subst hak; simp
    · rw [beq_false_of_ne hak]
      simp only [ih]
      by_cases hk : k ≤ a
      · have hk1 : k + 1 ≤ a := by omega
        have : a - k = (a - (k + 1)) + 1 := by omega
        simp [hk, hk1, this]
      · have hk1 : ¬ k + 1 ≤ a := by omega
        simp [hk, hk1]

/-- A replaced buffer reads as the sequence it was given. -/
@[simp] theorem Memory.read_ofSeq (b : List Byte) (a : Nat) : (Memory.ofSeq b).read a = b[a]? := by
  simp [Memory.read, Memory.ofSeq, List.range_eq_range', Memory.lookup_zip_range']

/-- In the canonical form exactly the indices below the length exist. -/
theorem Memory.read_eq_getElem? (m : Memory) (h : m.wf) (a : Nat) : m.read a = m.toSeq[a]? := by
  conv_lhs => rw [Memory.eq_ofSeq_of_wf m h]
  exact Memory.read_ofSeq _ _

@[simp] theorem Memory.read_nil (a : Nat) : Memory.read [] a = none := rfl

/-- Reading a buffer from 0 over its length gives all of it. -/
@[simp] theorem Memory.memRead_all (m : Memory) : m.memRead 0 m.length = m.toSeq := by
  simp [Memory.memRead, List.take_of_length_le]

theorem Memory.ofSeq_nil : Memory.ofSeq [] = [] := rfl

end Sys2Proof.Machine
end

