-- ==== Sys2Proof/Laws/PerInstr.lean ====
section
/-! SUPPORT. A fact about each command as syntax: the word the encoder gives it is a legal one, field by field
(30_encoding R72, R73, R74, R76). -/

/-- The encoder gives the command a well-formed word. -/
def Sys2Proof.Laws.LegalWord.Statement (i : Sys2Proof.Instr) : Prop :=
  (Sys2Proof.fieldsOf (Sys2Proof.encode i)).wellFormed = true

theorem Sys2Proof.Laws.LegalWord.ksched (n : Sys2Proof.Slot) (k : Sys2Proof.SubKey) (d : Sys2Proof.Direction) :
    Sys2Proof.Laws.LegalWord.Statement (.ksched n k d) := by
  unfold Sys2Proof.Laws.LegalWord.Statement
  fin_cases n <;> cases k <;> cases d <;> decide

theorem Sys2Proof.Laws.LegalWord.xform (n : Sys2Proof.Slot) : Sys2Proof.Laws.LegalWord.Statement (.xform n) := by
  unfold Sys2Proof.Laws.LegalWord.Statement
  fin_cases n <;> decide

theorem Sys2Proof.Laws.LegalWord.tsetup (m : Sys2Proof.Mode) : Sys2Proof.Laws.LegalWord.Statement (.tsetup m) := by
  unfold Sys2Proof.Laws.LegalWord.Statement
  cases m <;> decide

theorem Sys2Proof.Laws.LegalWord.txform : Sys2Proof.Laws.LegalWord.Statement .txform := by
  unfold Sys2Proof.Laws.LegalWord.Statement
  decide

theorem Sys2Proof.Laws.LegalWord.decode : Sys2Proof.Laws.LegalWord.Statement .decode := by
  unfold Sys2Proof.Laws.LegalWord.Statement
  decide
end

