-- ==== Sys2Proof/Laws/State.lean ====
section
/-! SUPPORT. One lemma per field per update of State, so that no proof unfolds a record update. -/

namespace Sys2Proof.Machine

/-! ### setBlk -/

@[simp] theorem State.setBlk_par (s : State) (v : Block) : (s.setBlk v).par = s.par := rfl
@[simp] theorem State.setBlk_blk (s : State) (v : Block) : (s.setBlk v).blk = v := rfl
@[simp] theorem State.setBlk_bv (s : State) (v : Block) : (s.setBlk v).bv = s.bv := rfl
@[simp] theorem State.setBlk_sched (s : State) (v : Block) : (s.setBlk v).sched = s.sched := rfl
@[simp] theorem State.setBlk_sv (s : State) (v : Block) : (s.setBlk v).sv = s.sv := rfl
@[simp] theorem State.setBlk_err (s : State) (v : Block) : (s.setBlk v).err = s.err := rfl
@[simp] theorem State.setBlk_ibuf (s : State) (v : Block) : (s.setBlk v).ibuf = s.ibuf := rfl
@[simp] theorem State.setBlk_obuf (s : State) (v : Block) : (s.setBlk v).obuf = s.obuf := rfl
@[simp] theorem State.setBlk_host (s : State) (v : Block) : (s.setBlk v).host = s.host := rfl
@[simp] theorem State.setBlk_returns (s : State) (v : Block) : (s.setBlk v).returns = s.returns := rfl

/-! ### writeBlk -/

@[simp] theorem State.writeBlk_par (s : State) (v : Block) : (s.writeBlk v).par = s.par := rfl
@[simp] theorem State.writeBlk_blk (s : State) (v : Block) : (s.writeBlk v).blk = v := rfl
@[simp] theorem State.writeBlk_bv (s : State) (v : Block) : (s.writeBlk v).bv = true := rfl
@[simp] theorem State.writeBlk_sched (s : State) (v : Block) : (s.writeBlk v).sched = s.sched := rfl
@[simp] theorem State.writeBlk_sv (s : State) (v : Block) : (s.writeBlk v).sv = s.sv := rfl
@[simp] theorem State.writeBlk_err (s : State) (v : Block) : (s.writeBlk v).err = s.err := rfl
@[simp] theorem State.writeBlk_ibuf (s : State) (v : Block) : (s.writeBlk v).ibuf = s.ibuf := rfl
@[simp] theorem State.writeBlk_obuf (s : State) (v : Block) : (s.writeBlk v).obuf = s.obuf := rfl
@[simp] theorem State.writeBlk_host (s : State) (v : Block) : (s.writeBlk v).host = s.host := rfl
@[simp] theorem State.writeBlk_returns (s : State) (v : Block) : (s.writeBlk v).returns = s.returns := rfl

/-! ### writeSlot -/

@[simp] theorem State.writeSlot_par (s : State) (n : Slot) (v : Schedule) : (s.writeSlot n v).par = s.par := rfl
@[simp] theorem State.writeSlot_blk (s : State) (n : Slot) (v : Schedule) : (s.writeSlot n v).blk = s.blk := rfl
@[simp] theorem State.writeSlot_bv (s : State) (n : Slot) (v : Schedule) : (s.writeSlot n v).bv = s.bv := rfl
@[simp] theorem State.writeSlot_sched (s : State) (n : Slot) (v : Schedule) : (s.writeSlot n v).sched = s.sched.set n v := rfl
@[simp] theorem State.writeSlot_sv (s : State) (n : Slot) (v : Schedule) : (s.writeSlot n v).sv = s.sv.set n true := rfl
@[simp] theorem State.writeSlot_err (s : State) (n : Slot) (v : Schedule) : (s.writeSlot n v).err = s.err := rfl
@[simp] theorem State.writeSlot_ibuf (s : State) (n : Slot) (v : Schedule) : (s.writeSlot n v).ibuf = s.ibuf := rfl
@[simp] theorem State.writeSlot_obuf (s : State) (n : Slot) (v : Schedule) : (s.writeSlot n v).obuf = s.obuf := rfl
@[simp] theorem State.writeSlot_host (s : State) (n : Slot) (v : Schedule) : (s.writeSlot n v).host = s.host := rfl
@[simp] theorem State.writeSlot_returns (s : State) (n : Slot) (v : Schedule) : (s.writeSlot n v).returns = s.returns := rfl

/-! ### writeSlots -/

@[simp] theorem State.writeSlots_par (s : State) (v : TripleSchedule) : (s.writeSlots v).par = s.par := rfl
@[simp] theorem State.writeSlots_blk (s : State) (v : TripleSchedule) : (s.writeSlots v).blk = s.blk := rfl
@[simp] theorem State.writeSlots_bv (s : State) (v : TripleSchedule) : (s.writeSlots v).bv = s.bv := rfl
@[simp] theorem State.writeSlots_sched (s : State) (v : TripleSchedule) : (s.writeSlots v).sched = v := rfl
@[simp] theorem State.writeSlots_sv (s : State) (v : TripleSchedule) : (s.writeSlots v).sv = #v[true, true, true] := rfl
@[simp] theorem State.writeSlots_err (s : State) (v : TripleSchedule) : (s.writeSlots v).err = s.err := rfl
@[simp] theorem State.writeSlots_ibuf (s : State) (v : TripleSchedule) : (s.writeSlots v).ibuf = s.ibuf := rfl
@[simp] theorem State.writeSlots_obuf (s : State) (v : TripleSchedule) : (s.writeSlots v).obuf = s.obuf := rfl
@[simp] theorem State.writeSlots_host (s : State) (v : TripleSchedule) : (s.writeSlots v).host = s.host := rfl
@[simp] theorem State.writeSlots_returns (s : State) (v : TripleSchedule) : (s.writeSlots v).returns = s.returns := rfl

/-! ### loadIbuf -/

@[simp] theorem State.loadIbuf_par (s : State) (c : List Byte) : (s.loadIbuf c).par = s.par := rfl
@[simp] theorem State.loadIbuf_blk (s : State) (c : List Byte) : (s.loadIbuf c).blk = s.blk := rfl
@[simp] theorem State.loadIbuf_bv (s : State) (c : List Byte) : (s.loadIbuf c).bv = s.bv := rfl
@[simp] theorem State.loadIbuf_sched (s : State) (c : List Byte) : (s.loadIbuf c).sched = s.sched := rfl
@[simp] theorem State.loadIbuf_sv (s : State) (c : List Byte) : (s.loadIbuf c).sv = s.sv := rfl
@[simp] theorem State.loadIbuf_err (s : State) (c : List Byte) : (s.loadIbuf c).err = s.err := rfl
@[simp] theorem State.loadIbuf_ibuf (s : State) (c : List Byte) : (s.loadIbuf c).ibuf = Memory.ofSeq c := rfl
@[simp] theorem State.loadIbuf_obuf (s : State) (c : List Byte) : (s.loadIbuf c).obuf = s.obuf := rfl
@[simp] theorem State.loadIbuf_host (s : State) (c : List Byte) : (s.loadIbuf c).host = s.host := rfl
@[simp] theorem State.loadIbuf_returns (s : State) (c : List Byte) : (s.loadIbuf c).returns = s.returns := rfl

/-! ### writeObuf -/

@[simp] theorem State.writeObuf_par (s : State) (out : List Byte) : (s.writeObuf out).par = s.par := rfl
@[simp] theorem State.writeObuf_blk (s : State) (out : List Byte) : (s.writeObuf out).blk = s.blk := rfl
@[simp] theorem State.writeObuf_bv (s : State) (out : List Byte) : (s.writeObuf out).bv = s.bv := rfl
@[simp] theorem State.writeObuf_sched (s : State) (out : List Byte) : (s.writeObuf out).sched = s.sched := rfl
@[simp] theorem State.writeObuf_sv (s : State) (out : List Byte) : (s.writeObuf out).sv = s.sv := rfl
@[simp] theorem State.writeObuf_err (s : State) (out : List Byte) : (s.writeObuf out).err = s.err := rfl
@[simp] theorem State.writeObuf_ibuf (s : State) (out : List Byte) : (s.writeObuf out).ibuf = s.ibuf := rfl
@[simp] theorem State.writeObuf_obuf (s : State) (out : List Byte) : (s.writeObuf out).obuf = Memory.ofSeq out := rfl
@[simp] theorem State.writeObuf_host (s : State) (out : List Byte) : (s.writeObuf out).host = s.host := rfl
@[simp] theorem State.writeObuf_returns (s : State) (out : List Byte) : (s.writeObuf out).returns = s.returns := rfl

/-! ### setErr -/

@[simp] theorem State.setErr_par (s : State) (e : Err) : (s.setErr e).par = s.par := rfl
@[simp] theorem State.setErr_blk (s : State) (e : Err) : (s.setErr e).blk = s.blk := rfl
@[simp] theorem State.setErr_bv (s : State) (e : Err) : (s.setErr e).bv = s.bv := rfl
@[simp] theorem State.setErr_sched (s : State) (e : Err) : (s.setErr e).sched = s.sched := rfl
@[simp] theorem State.setErr_sv (s : State) (e : Err) : (s.setErr e).sv = s.sv := rfl
@[simp] theorem State.setErr_err (s : State) (e : Err) : (s.setErr e).err = e := rfl
@[simp] theorem State.setErr_ibuf (s : State) (e : Err) : (s.setErr e).ibuf = s.ibuf := rfl
@[simp] theorem State.setErr_obuf (s : State) (e : Err) : (s.setErr e).obuf = s.obuf := rfl
@[simp] theorem State.setErr_host (s : State) (e : Err) : (s.setErr e).host = s.host := rfl
@[simp] theorem State.setErr_returns (s : State) (e : Err) : (s.setErr e).returns = s.returns := rfl

/-! ### answer -/

@[simp] theorem State.answer_par (s : State) (r : Reply) : (s.answer r).par = s.par := rfl
@[simp] theorem State.answer_blk (s : State) (r : Reply) : (s.answer r).blk = s.blk := rfl
@[simp] theorem State.answer_bv (s : State) (r : Reply) : (s.answer r).bv = s.bv := rfl
@[simp] theorem State.answer_sched (s : State) (r : Reply) : (s.answer r).sched = s.sched := rfl
@[simp] theorem State.answer_sv (s : State) (r : Reply) : (s.answer r).sv = s.sv := rfl
@[simp] theorem State.answer_err (s : State) (r : Reply) : (s.answer r).err = s.err := rfl
@[simp] theorem State.answer_ibuf (s : State) (r : Reply) : (s.answer r).ibuf = s.ibuf := rfl
@[simp] theorem State.answer_obuf (s : State) (r : Reply) : (s.answer r).obuf = s.obuf := rfl
@[simp] theorem State.answer_host (s : State) (r : Reply) : (s.answer r).host = s.host := rfl
@[simp] theorem State.answer_returns (s : State) (r : Reply) : (s.answer r).returns = s.returns ++ [r] := rfl

/-! ### setHost -/

@[simp] theorem State.setHost_par (s : State) (rest : List Transaction) : (s.setHost rest).par = s.par := rfl
@[simp] theorem State.setHost_blk (s : State) (rest : List Transaction) : (s.setHost rest).blk = s.blk := rfl
@[simp] theorem State.setHost_bv (s : State) (rest : List Transaction) : (s.setHost rest).bv = s.bv := rfl
@[simp] theorem State.setHost_sched (s : State) (rest : List Transaction) : (s.setHost rest).sched = s.sched := rfl
@[simp] theorem State.setHost_sv (s : State) (rest : List Transaction) : (s.setHost rest).sv = s.sv := rfl
@[simp] theorem State.setHost_err (s : State) (rest : List Transaction) : (s.setHost rest).err = s.err := rfl
@[simp] theorem State.setHost_ibuf (s : State) (rest : List Transaction) : (s.setHost rest).ibuf = s.ibuf := rfl
@[simp] theorem State.setHost_obuf (s : State) (rest : List Transaction) : (s.setHost rest).obuf = s.obuf := rfl
@[simp] theorem State.setHost_host (s : State) (rest : List Transaction) : (s.setHost rest).host = rest := rfl
@[simp] theorem State.setHost_returns (s : State) (rest : List Transaction) : (s.setHost rest).returns = s.returns := rfl

/-! ### complete -/

@[simp] theorem complete_par (s : State) : (complete s).par = s.par := rfl
@[simp] theorem complete_blk (s : State) : (complete s).blk = s.blk := rfl
@[simp] theorem complete_bv (s : State) : (complete s).bv = s.bv := rfl
@[simp] theorem complete_sched (s : State) : (complete s).sched = s.sched := rfl
@[simp] theorem complete_sv (s : State) : (complete s).sv = s.sv := rfl
@[simp] theorem complete_err (s : State) : (complete s).err = .ok := rfl
@[simp] theorem complete_ibuf (s : State) : (complete s).ibuf = s.ibuf := rfl
@[simp] theorem complete_obuf (s : State) : (complete s).obuf = s.obuf := rfl
@[simp] theorem complete_host (s : State) : (complete s).host = s.host := rfl
@[simp] theorem complete_returns (s : State) : (complete s).returns = s.returns := rfl

/-! ### raise -/

@[simp] theorem raise_par (x : Cause) (s : State) : (raise x s).par = s.par := by cases x <;> rfl
@[simp] theorem raise_blk (x : Cause) (s : State) : (raise x s).blk = s.blk := by cases x <;> rfl
@[simp] theorem raise_bv (x : Cause) (s : State) : (raise x s).bv = s.bv := by cases x <;> rfl
@[simp] theorem raise_sched (x : Cause) (s : State) : (raise x s).sched = s.sched := by cases x <;> rfl
@[simp] theorem raise_sv (x : Cause) (s : State) : (raise x s).sv = s.sv := by cases x <;> rfl
@[simp] theorem raise_err (x : Cause) (s : State) : (raise x s).err = x.err := by cases x <;> rfl
@[simp] theorem raise_ibuf (x : Cause) (s : State) : (raise x s).ibuf = s.ibuf := by cases x <;> rfl
@[simp] theorem raise_obuf (x : Cause) (s : State) :
    (raise x s).obuf = if x = .invalidHex then [] else s.obuf := by cases x <;> rfl
@[simp] theorem raise_host (x : Cause) (s : State) : (raise x s).host = s.host := by cases x <;> rfl
@[simp] theorem raise_returns (x : Cause) (s : State) : (raise x s).returns = s.returns := by cases x <;> rfl

/-! ### views -/

@[simp] theorem State.slot_eq (s : State) (n : Slot) : s.slot n = s.sched[n] := rfl

@[simp] theorem State.slotValid_eq (s : State) (n : Slot) : s.slotValid n = s.sv[n] := rfl

theorem State.allSlotsValid_iff (s : State) : s.allSlotsValid = true ↔ ∀ n : Slot, s.sv[n] = true := by
  simp [State.allSlotsValid, Fin.forall_fin_succ, and_assoc]

@[simp] theorem State.setHost_host_self (s : State) : s.setHost s.host = s := rfl

@[simp] theorem State.setErr_err_self (s : State) : s.setErr s.err = s := rfl

@[simp] theorem State.setErr_setErr (s : State) (e f : Err) : (s.setErr e).setErr f = s.setErr f := rfl

end Sys2Proof.Machine
end

