-- ==== Sys2Proof/Laws/Step.lean ====
section
/-! SUPPORT. What each shared operation and each transaction can do, said once. -/

namespace Sys2Proof.Machine

/-- XFORM answers one of three states. -/
theorem execXform_cases (n : Slot) (s : State) :
    (s.bv = false ∧ execXform n s = .next (raise .blockNotReady s)) ∨
    (s.bv = true ∧ s.sv[n] = false ∧ execXform n s = .next (raise .slotNotReady s)) ∨
    (s.bv = true ∧ s.sv[n] = true ∧
      execXform n s = .next (complete (s.setBlk (transform s.par.tables.set s.blk s.sched[n])))) := by
  unfold execXform
  cases hb : s.bv
  · simp
  · cases hv : s.sv[n] <;> simp [State.slotValid, State.slot, hv]

/-- TXFORM answers one of three states. -/
theorem execTxform_cases (s : State) :
    (s.bv = false ∧ execTxform s = .next (raise .blockNotReady s)) ∨
    (s.bv = true ∧ s.allSlotsValid = false ∧ execTxform s = .next (raise .slotNotReady s)) ∨
    (s.bv = true ∧ s.allSlotsValid = true ∧
      execTxform s = .next (complete (s.setBlk (tripleTransform s.par.tables.set s.blk s.sched)))) := by
  unfold execTxform
  cases hb : s.bv
  · simp
  · cases hv : s.allSlotsValid <;> simp

/-- DECODE answers one of two states. -/
theorem execDecode_cases (s : State) :
    (decodeFront s.par.tables.set s.par.key s.ibuf.toSeq = none ∧ execDecode s = .next (raise .invalidHex s)) ∨
    (∃ out, decodeFront s.par.tables.set s.par.key s.ibuf.toSeq = some out ∧
      execDecode s = .next (complete (s.writeObuf out))) := by
  unfold execDecode
  rw [State.ilen, Memory.memRead_all]
  cases h : decodeFront s.par.tables.set s.par.key s.ibuf.toSeq with
  | none => exact .inl ⟨rfl, rfl⟩
  | some out => exact .inr ⟨out, rfl, rfl⟩

/-- A command word is a command or is reserved. -/
theorem command_cases (c : Byte) (s : State) :
    (∃ i, decode c = .ok i ∧ command c s = exec i s) ∨
    (∃ e, decode c = .error e ∧ command c s = .next (raise .illegalCommand s)) := by
  unfold command
  cases h : decode c with
  | ok i => exact .inl ⟨i, rfl, rfl⟩
  | error e => exact .inr ⟨e, rfl, rfl⟩

/-- A step is idle, or one transaction on the state whose host has issued it. -/
theorem step_cases (s : State) :
    (s.host = [] ∧ step s = .next s) ∨
    (∃ x rest, s.host = x :: rest ∧ step s = transact x (s.setHost rest)) := by
  unfold step nextTransaction
  cases h : s.host with
  | nil => exact .inl ⟨rfl, rfl⟩
  | cons x rest => exact .inr ⟨x, rest, rfl, rfl⟩

/-- What a transaction that is no command leaves when it is not refused. -/
theorem transact_next_cases {x : Transaction} {s t : State} (h : transact x s = .next t) :
    (∃ c, x = .cmd c ∧ command c s = .next t) ∨ (∃ v, x = .wrBlk v ∧ t = s.writeBlk v) ∨
    (∃ c, x = .ldIbuf c ∧ fitsIbuf s.par.ibufCap c.length = true ∧ t = s.loadIbuf c) ∨
    (∃ r, t = s.answer r) := by
  cases x with
  | wrBlk v => cases h; exact .inr (.inl ⟨v, rfl, rfl⟩)
  | cmd c => exact .inl ⟨c, rfl, h⟩
  | ldIbuf c =>
    simp only [transact, load] at h
    split at h
    · cases h; exact .inr (.inr (.inl ⟨c, rfl, ‹_›, rfl⟩))
    · cases h
  | rdBlk =>
    simp only [transact, readBlk] at h
    split at h
    · cases h; exact .inr (.inr (.inr ⟨_, rfl⟩))
    · cases h
  | rdObufAt j =>
    simp only [transact, readObufAt] at h
    split at h
    · cases h; exact .inr (.inr (.inr ⟨_, rfl⟩))
    · cases h
  | rdIlen => cases h; exact .inr (.inr (.inr ⟨_, rfl⟩))
  | rdOlen => cases h; exact .inr (.inr (.inr ⟨_, rfl⟩))
  | rdObuf => cases h; exact .inr (.inr (.inr ⟨_, rfl⟩))
  | rdStatus => cases h; exact .inr (.inr (.inr ⟨_, rfl⟩))

/-- What a transaction does rests in nothing on the transactions that wait after it, and it leaves them as they are. -/
theorem transact_setHost {t : Transaction} {s s' : State} (h : List Transaction)
    (e : transact t s = .next s') :
    transact t (s.setHost h) = .next (s'.setHost h) ∧ s'.host = s.host := by
  cases t with
  | cmd c =>
    simp only [transact, command] at *
    cases hd : decode c with
    | error _ => rw [hd] at e; simp only at *; cases e; exact ⟨rfl, rfl⟩
    | ok i =>
      rw [hd] at e; simp only at *
      cases i with
      | ksched n k d => cases e; exact ⟨rfl, rfl⟩
      | tsetup m => cases e; exact ⟨rfl, rfl⟩
      | xform n =>
        change execXform n s = _ at e
        change execXform n (s.setHost h) = _ ∧ _
        obtain ⟨hb, e'⟩ | ⟨hb, hv, e'⟩ | ⟨hb, hv, e'⟩ := execXform_cases n s <;>
          (rw [e'] at e; cases e; exact ⟨by simp_all [execXform, State.setHost, State.slotValid, State.slot]; rfl, rfl⟩)
      | txform =>
        change execTxform s = _ at e
        change execTxform (s.setHost h) = _ ∧ _
        obtain ⟨hb, e'⟩ | ⟨hb, hv, e'⟩ | ⟨hb, hv, e'⟩ := execTxform_cases s <;>
          (rw [e'] at e; cases e
           exact ⟨by simp_all [execTxform, State.setHost, State.allSlotsValid, State.slotValid]; rfl, rfl⟩)
      | decode =>
        change execDecode s = _ at e; change execDecode (s.setHost h) = _ ∧ _
        unfold execDecode at *
        simp only [State.setHost, State.ilen] at *
        split at e
        all_goals (cases e; simp_all [raise, complete, State.setErr, State.writeObuf])
  | rdBlk =>
    simp only [transact, readBlk, State.setHost] at *
    split at e <;> cases e; simp_all [State.answer]
  | ldIbuf c =>
    simp only [transact, load, State.setHost] at *
    split at e <;> cases e; simp_all [State.loadIbuf]
  | rdObufAt j =>
    simp only [transact, readObufAt, State.setHost] at *
    split at e <;> cases e; simp_all [State.answer]
  | _ => cases e; exact ⟨rfl, rfl⟩

/-- An issued transaction is what the next step is. -/
theorem step_issueTransaction (t : Transaction) (s : State) : step (issueTransaction t s) = transact t s := rfl

end Sys2Proof.Machine
end

