-- ==== Sys2Proof/Tests/Slice0.lean ====
section
/-! SUPPORT. Tests, with results taken from the spec's tables and vectors (95_test_vectors) or worked out by hand from a
rule, and witnesses that the hypotheses of the statements can be met. -/

namespace Sys2Proof.Tests

-- One test after the other: each kernel evaluation in a thread of its own would ask for more memory than there is.
set_option Elab.async false

open Sys2Proof Sys2Proof.Machine

/-! ### Helpers -/

/-- `KEY_A` of 95_test_vectors. -/
def keyA : CipherKey :=
  #v[0x13, 0x34, 0x57, 0x79, 0x9B, 0xBC, 0xDF, 0xF1, 0x01, 0x23, 0x45, 0x67, 0x89, 0xAB, 0xCD, 0xEF,
    0x01, 0x01, 0x01, 0x01, 0x01, 0x01, 0x01, 0x01]

/-- `KEY_B` of 95_test_vectors. -/
def keyB : CipherKey :=
  #v[0x01, 0x23, 0x45, 0x67, 0x89, 0xAB, 0xCD, 0xEF, 0x23, 0x45, 0x67, 0x89, 0xAB, 0xCD, 0xEF, 0x01,
    0x45, 0x67, 0x89, 0xAB, 0xCD, 0xEF, 0x01, 0x23]

/-- A key whose first two thirds agree, and one whose last two do. -/
def keyEq12 : CipherKey :=
  #v[1, 2, 3, 4, 5, 6, 7, 8, 1, 2, 3, 4, 5, 6, 7, 8, 9, 9, 9, 9, 9, 9, 9, 9]
def keyEq23 : CipherKey :=
  #v[9, 9, 9, 9, 9, 9, 9, 9, 1, 2, 3, 4, 5, 6, 7, 8, 1, 2, 3, 4, 5, 6, 7, 8]

/-- The reset state of a block built with the given constants. -/
def fresh (key : CipherKey) (tables : Tables) (cap : Option Nat) : State :=
  { State.reset with par := ⟨key, tables, cap⟩ }

/-- A block with `KEY_A` and `TABLES_STD` and at most four input characters, whose BLK holds the usual plaintext. -/
def blockLoaded : State := (fresh keyA tablesStd (some 4)).writeBlk 0x0123456789ABCDEF#64

/-- The same with every slot written (all round keys zero). -/
def slotsLoaded : State := blockLoaded.writeSlots (Vector.replicate 3 (Vector.replicate 16 0#48))

/-- `KEY_B`, `TABLES_STD` and an input string. -/
def withInput (s : List Byte) : State := (fresh keyB tablesStd none).loadIbuf s

/-- The 8-bit codes of a string of hexadecimal digits given by their values, in upper case. -/
def digits (v : List Nat) : List Byte := v.map fun d => BitVec.ofNat 8 (if d < 10 then 0x30 + d else 0x37 + d)

/-- "0123456789ABCDEF" -/
def sixteenDigits : List Byte := digits (List.range 16)

def after (o : Host.Outcome State Fault Refusal) : State :=
  match o with
  | .next s => s
  | .fault _ => State.reset
  | .refused _ => State.reset

def refusal (o : Host.Outcome State Fault Refusal) : Option Refusal :=
  match o with
  | .next _ => none
  | .fault _ => none
  | .refused r => some r

/-! ### Well-formedness: each check refuses an ill-formed term -/

/-- `op = 110` is reserved (30_encoding R77). -/
theorem test_wellFormed_refuses_operation : (CommandFields.mk 0b110 0 0 0).wellFormed = false := by decide
/-- `XFORM` with `s = 3` (30_encoding R72). -/
theorem test_wellFormed_refuses_slot_three : (CommandFields.mk 0b010 3 0 0).wellFormed = false := by decide
/-- `TXFORM` with `s = 1` (30_encoding R72). -/
theorem test_wellFormed_refuses_unused_slot : (CommandFields.mk 0b100 1 0 0).wellFormed = false := by decide
/-- `KSCHED` with `k = 0` (30_encoding R73). -/
theorem test_wellFormed_refuses_subKey_zero : (CommandFields.mk 0b001 0 0 1).wellFormed = false := by decide
/-- `TSETUP` with `k = 1` (30_encoding R73). -/
theorem test_wellFormed_refuses_unused_subKey : (CommandFields.mk 0b011 0 1 0).wellFormed = false := by decide
/-- `DECODE` with `d = 1` (30_encoding R74). -/
theorem test_wellFormed_refuses_direction : (CommandFields.mk 0b101 0 0 1).wellFormed = false := by decide
/-- An IP with an entry twice is no bijection (40 R96). -/
theorem test_tables_refuse_repeated_entry :
    ¬ { tablesStdSet with ip := tablesStdSet.ip.set 0 50 }.WellFormed := by decide +kernel
/-- An FP that is not the inverse of IP (40 R96). -/
theorem test_tables_refuse_wrong_inverse : ¬ { tablesStdSet with fp := tablesStdSet.ip }.WellFormed := by decide +kernel
/-- An entry outside its range (40 R95): position 33 of a half, and a shift of 3. -/
theorem test_tables_refuse_range :
    ¬ { tablesStdSet with e := tablesStdSet.e.set 0 33 }.WellFormed ∧
    ¬ { tablesStdSet with shift := tablesStdSet.shift.set 0 3 }.WellFormed := by decide +kernel

/-! ### Decoding, on words written out from 30_encoding R71 and 95 V60 -/

/-- `001 01 10 1`. -/
theorem test_decode_ksched : decode 0b00101101#8 = .ok (.ksched 1 .k2 .decrypt) := by decide
/-- `010 10 00 0`. -/
theorem test_decode_xform : decode 0b01010000#8 = .ok (.xform 2) := by decide
/-- `011 00 00 1`. -/
theorem test_decode_tsetup : decode 0b01100001#8 = .ok (.tsetup .decrypt) := by decide
/-- `100 00 00 0`. -/
theorem test_decode_txform : decode 0b10000000#8 = .ok .txform := by decide
/-- `101 00 00 0`. -/
theorem test_decode_decode : decode 0b10100000#8 = .ok .decode := by decide
/-- `001 00 00 0` and `001 11 11 1`, both reserved. -/
theorem test_decode_reserved : decode 0x20#8 = .error .subKey ∧ decode 0x3F#8 = .error .slot := by decide
/-- The word 0xA2 of the table's numbering is reserved; 0x37 is `KSCHED 2, K3, DEC`. -/
theorem test_decodeTableWord : decodeTableWord 8 0xA2 = none ∧
    decodeTableWord 8 0x37 = some (.ksched 2 .k3 .decrypt) := by decide
/-- 30_encoding R76: `KSCHED 1, K2, DEC` is 0x2D. -/
theorem test_encode_ksched : encode (.ksched 1 .k2 .decrypt) = 0x2D#8 := by decide

/-! ### Primitives (95 V1, V2) -/

theorem test_bitm : bitm 0x80#8 1 = true ∧ bitm 0x80#8 8 = false := by decide
theorem test_perm : perm #v[2, 1, 4, 3] 0b1000#4 = 0b0100#4 ∧ perm #v[4, 4, 1] 0b1001#4 = 0b111#3 := by decide +kernel
theorem test_inverse : inverse #v[2, 3, 1] = #v[3, 1, 2] := by decide
theorem test_rotl28 : rotl28 0x8000001#28 2 = 0x0000006#28 ∧ rotl28 0x556678F#28 1 = 0xAACCF1E#28 := by decide
theorem test_sidx : sidx 0b101011#6 = 53#6 ∧ sidx 0b100000#6 = 32#6 ∧ sidx 0b000001#6 = 16#6 := by decide
theorem test_be : be 8 [0x01, 0x23, 0x45, 0x67, 0x89, 0xAB, 0xCD, 0xEF] = 0x0123456789ABCDEF#64 := by decide
theorem test_bytesBe : bytesBe 2 0x0123#16 = [0x01, 0x23] := by decide
theorem test_perm_ip : perm tablesStdSet.ip 0x0123456789ABCDEF#64 = 0xCC00CCFFF0AAF0AA#64 := by decide +kernel
/-- 40 R101: FP is computed from IP. -/
theorem test_fp_is_inverse : inverse tablesStdSet.ip = tablesStdSet.fp := by decide +kernel

/-! ### Key schedule, round function, transform (95 V10, V20, V25, V31) -/

theorem test_schedule_last : (generateSchedule tablesStdSet 0x133457799BBCDFF1#64 .encrypt)[15] = 0xCB3D8B0E17F5#48 := by
  decide +kernel
theorem test_schedule_reversed :
    (generateSchedule tablesStdSet 0x133457799BBCDFF1#64 .decrypt)[14] = 0x79AED9DBC9E5#48 := by decide +kernel
/-- 42 R138. -/
theorem test_roundFunction : roundFunction tablesStdSet 0xF0AAF0AA#32 0x1B02EFFC7072#48 = 0x234AA9BB#32 := by
  decide +kernel
/-- 95 V24 against V25: the one entry in which the reference tables differ. -/
theorem test_roundFunction_deviation :
    roundFunction tablesStdSet 0#32 0x00002B000000#48 = 0xD898CBBC#32 ∧
    roundFunction tablesSrcSet 0#32 0x00002B000000#48 = 0x58D8CBFC#32 := by decide +kernel
/-- 42 R149, 95 V31: a triple that holds under both table sets. -/
theorem test_known_answer :
    cipherWith tablesSrcSet .encrypt 0x0123456789ABCDEF#64 0x4E6F772069732074#64 = 0x3FA40E8A984D4815#64 := by
  decide +kernel
/-- 95 V31, third triple, under TABLES_STD. -/
theorem test_known_answer_std :
    cipherWith tablesStdSet .encrypt 0x0101010101010101#64 0x8000000000000000#64 = 0x95F8A5E5DD31D900#64 := by
  decide +kernel

/-! ### Commands -/

/-- 41 R125: `KSCHED 0, K1, DEC` leaves `SCHED[0][15] = 0x1B02EFFC7072`. -/
theorem test_ksched : (after (exec (.ksched 0 .k1 .decrypt) blockLoaded)).sched[0][15] = 0x1B02EFFC7072#48 := by
  decide +kernel
/-- 41 R125: the other slots stay not ready. -/
theorem test_ksched_valid_bits : (after (exec (.ksched 1 .k1 .encrypt) blockLoaded)).sv = #v[false, true, false] := by
  decide +kernel
/-- 42 R145. -/
theorem test_xform : (after (exec (.xform 0) (after (exec (.ksched 0 .k1 .encrypt) blockLoaded)))).blk =
    0x85E813540F0AB405#64 := by decide +kernel
/-- 60_exceptions R207: straight after reset the block is missed before the slot. -/
theorem test_xform_priority : (after (exec (.xform 0) State.reset)).err = .blockNotReady ∧
    (after (exec (.xform 0) blockLoaded)).err = .slotNotReady := by decide +kernel
/-- 43 R156 (worked example, TSETUP DEC, slot 2). -/
theorem test_tsetup : (after (exec (.tsetup .decrypt) (withInput []))).sched[2][0] = 0xCA3D03B87032#48 := by decide +kernel
/-- 43 R156 (worked example, TSETUP ENC, slot 1). -/
theorem test_tsetup_encrypt : (after (exec (.tsetup .encrypt) (withInput []))).sched[1][0] = 0xB691050A16B5#48 := by
  decide +kernel
/-- 43 R160 (worked example). -/
theorem test_txform : (after (exec .txform (after (exec (.tsetup .encrypt)
    ((withInput []).writeBlk 0x0123456789ABCDEF#64))))).blk = 0xF2AFD84EE809E2B5#64 := by decide +kernel
/-- 43 R160: one missing slot is enough to raise. -/
theorem test_txform_raises :
    (after (exec .txform (blockLoaded.writeSlot 1 (Vector.replicate 16 0#48)))).err = .slotNotReady := by decide +kernel
/-- 95 V57. -/
theorem test_decode_block : (after (exec .decode (withInput sixteenDigits))).obuf.toSeq =
    [0xBE, 0x7C, 0x5B, 0xBE, 0x79, 0xBE, 0xDE, 0x1C] := by decide +kernel
/-- 95 V58b: `0g`. -/
theorem test_decode_bad_digit : (after (exec .decode (withInput [0x30, 0x67]))).err = .invalidHex := by decide +kernel

/-! ### Hex front-end and chunks (95 V50, 44 R174) -/

theorem test_hexval_neighbours : [0x2F#8, 0x3A#8, 0x40#8, 0x47#8, 0x60#8, 0x67#8].map hexval =
    [none, none, none, none, none, none] := by decide
theorem test_hexdecode_nibbles : hexdecode [0x37, 0x66] = some [0x7F] ∧ hexdecode [0x30] = none := by decide
/-- 44 R175: of 20 bytes, 16 are kept. -/
theorem test_chunks : (chunks8 (List.replicate 20 0#8)).length = 2 := by decide

/-! ### Host transactions (95 V61, P1 to P5) -/

/-- 95 V61 steps 1 and 6: STATUS after reset, and `0x24` (slot 1 ready, BlockNotReady). -/
theorem test_status : State.reset.status = 0x00#8 ∧
    ({ State.reset with sv := #v[false, true, false], err := .blockNotReady } : State).status = 0x24#8 := by decide
/-- 93 U4. -/
theorem test_read_unwritten_block : refusal (transact .rdBlk State.reset) = some .blockUnwritten := by decide +kernel
/-- 95 V61 step 7: a write of the block leaves ERR. -/
theorem test_write_block_keeps_err :
    (after (transact (.wrBlk 0#64) (after (exec .txform State.reset)))).err = .blockNotReady := by decide +kernel
/-- 95 V61 step 4: the word 0x00 is no no-op. -/
theorem test_reserved_word : (after (transact (.cmd 0x00#8) State.reset)).err = .illegalCommand := by decide +kernel
/-- A load at the capacity, and one above it (93 U13). -/
theorem test_load_capacity : (after (transact (.ldIbuf [1, 2, 3, 4]) blockLoaded)).ilen = 4 ∧
    refusal (transact (.ldIbuf [1, 2, 3, 4, 5]) blockLoaded) = some .loadTooLong := by decide +kernel
/-- The word placed by the host is the command the next step runs. -/
theorem test_withFetchWord : (after (step (State.reset.withFetchWord 8 0x32))).sv = #v[false, false, true] := by
  decide +kernel
/-- A platform's reset clears the valid bits. -/
theorem test_platformReset : (platformReset slotsLoaded).sv = #v[false, false, false] := by decide +kernel

/-! ### Assembler lines (30_encoding R80, 95 P1) -/

/-- `KSCHED 1, K1, DEC ; word 2B`. -/
theorem test_readLine_command : readLine ['K', 'S', 'C', 'H', 'E', 'D', ' ', '1', ',', ' ', 'K', '1', ',', ' ', 'D', 'E',
    'C', ' ', ';', ' ', '2', 'B'] = some (.cmd 0x2B#8) := by decide +kernel
/-- `LD IBUF, "0g\x0A"`. -/
theorem test_readLine_load : readLine ['L', 'D', ' ', 'I', 'B', 'U', 'F', ',', ' ', '"', '0', 'g', '\\', 'x', '0', 'A', '"'] =
    some (.ldIbuf [0x30, 0x67, 0x0A]) := by decide +kernel
/-- `WR BLK` and `RD OBUF[j]` read back. -/
theorem test_readLine_operands : readLine (writeLine (.wrBlk 0x0123456789ABCDEF#64)) = some (.wrBlk 0x0123456789ABCDEF#64) ∧
    readLine (writeLine (.rdObufAt 107)) = some (.rdObufAt 107) := by decide +kernel
/-- 95 P1: the encoding of a program. -/
theorem test_programWords : programWords [.wrBlk 1, .cmd 0x22, .cmd 0x40, .rdBlk, .cmd 0x2B] = [0x22, 0x40, 0x2B] := by
  decide

/-! ### Witnesses: the hypotheses of each statement can be met -/

theorem witness_ReservedWordRaisesIllegalCommand :
    (fieldsOf 0x00#8).wellFormed = false ∧ (fieldsOf 0x38#8).wellFormed = false ∧ (fieldsOf 0xFF#8).wellFormed = false := by
  decide
theorem witness_StepRunsTheDecodedCommand :
    (State.reset.withFetchWord 8 0x32).host = .cmd 0x32#8 :: [] ∧ decode 0x32#8 = .ok (.ksched 2 .k1 .encrypt) :=
  ⟨rfl, rfl⟩
theorem witness_IdleBlockKeepsItsState : State.reset.host = [] := rfl

/-- Every row of the transaction table: the queues, a written and an unwritten block, loads at and above the capacity,
the last element of an output buffer and the first index past it. -/
theorem witness_HostTransactionTable :
    (∀ x : Transaction, (blockLoaded.setHost [x]).host = x :: []) ∧ blockLoaded.bv = true ∧ State.reset.bv = false ∧
    fitsIbuf blockLoaded.par.ibufCap 4 = true ∧ fitsIbuf blockLoaded.par.ibufCap 5 = false ∧
    (blockLoaded.writeObuf [1, 2, 3]).obuf.wf ∧ (blockLoaded.writeObuf [1, 2, 3]).olen = 3 ∧
    (blockLoaded.writeObuf [1, 2, 3]).obuf.read 2 = some 3 ∧ (blockLoaded.writeObuf [1, 2, 3]).obuf.read 3 = none :=
  ⟨fun _ => rfl, rfl, rfl, rfl, rfl, by decide, rfl, rfl, rfl⟩
theorem witness_StatusByteLayout : (blockLoaded.setHost [.rdStatus]).host = .rdStatus :: [] ∧
    ∃ t, step (blockLoaded.setHost [.rdStatus]) = .next t := ⟨rfl, _, rfl⟩
theorem witness_ErrIsWrittenByEveryCommandAndReadByNone :
    (∀ c, Transaction.wrBlk 0 ≠ .cmd c) ∧ ∃ t, transact (.wrBlk 0) blockLoaded = .next t :=
  ⟨fun _ h => Transaction.noConfusion h, _, rfl⟩
/-- Block not written; block written and a slot not; for each of the commands. -/
theorem witness_NotReadyErrors : State.reset.bv = false ∧ blockLoaded.bv = true ∧ blockLoaded.sv[(2 : Slot)] = false ∧
    ∃ n : Slot, (blockLoaded.writeSlot 1 (Vector.replicate 16 0#48)).sv[n] = false := ⟨rfl, rfl, rfl, 0, rfl⟩
theorem witness_PermSelectsPositions : bitm (perm tablesStdSet.e 0x80000001#32) (0 + 1) = bitm 0x80000001#32 32 ∧
    bitm (perm tablesStdSet.e 0x80000001#32) (47 + 1) = bitm 0x80000001#32 1 := by decide +kernel
theorem witness_InverseTableUndoesATable : entriesWithin #v[2, 3, 1].toList 3 ∧ #v[2, 3, 1].toList.Nodup := by decide
theorem witness_FinalPermutationUndoesTheInitial : tablesStdSet.WellFormed ∧ tablesSrcSet.WellFormed :=
  ⟨tablesStdSet_wellFormed, tablesSrcSet_wellFormed⟩
theorem witness_BytesAndBitsCorrespond : ([0x01, 0x23] : List Byte).length = 2 ∧ ([] : List Byte).length = 0 := by decide
theorem witness_SubKeysAreTheThirdsOfTheKey : (bytesBe 8 (subKey keyB .k3))[7]? = some keyB[16 + 7] ∧
    (bytesBe 8 (subKey keyB .k1))[0]? = some keyB[0] := by decide +kernel
theorem witness_ScheduleHoldsTheIterationKeys :
    iterationKey tablesStdSet 0x133457799BBCDFF1#64 0 = 0x1B02EFFC7072#48 ∧
    iterationKey tablesStdSet 0x133457799BBCDFF1#64 15 = 0xCB3D8B0E17F5#48 := by decide +kernel
/-- 41 R130: the two sub-keys that the spec names differ only at the positions 8, 16, ..., 64. -/
theorem witness_UnselectedSubKeyBitsHaveNoEffect :
    (∀ p ∈ List.range' 1 64, p ∉ [8, 16, 24, 32, 40, 48, 56, 64] →
      bitm 0x133457799BBCDFF1#64 p = bitm 0x123456789ABCDEF0#64 p) ∧
    (∀ p ∈ tablesStdSet.pc1c.toList ++ tablesStdSet.pc1d.toList,
      bitm 0x133457799BBCDFF1#64 p = bitm 0x123456789ABCDEF0#64 p) := by decide +kernel
/-- 41 R131: the spec's examples, zeros and ones. -/
theorem witness_ConstantHalvesGiveEqualKeys :
    perm tablesStdSet.pc1c 0x0101010101010101#64 = 0#28 ∧ perm tablesStdSet.pc1d 0x0101010101010101#64 = 0#28 ∧
    perm tablesStdSet.pc1c 0xFEFEFEFEFEFEFEFE#64 = BitVec.allOnes 28 ∧
    perm tablesStdSet.pc1d 0xFEFEFEFEFEFEFEFE#64 = BitVec.allOnes 28 := by decide +kernel
/-- A sequence of halves that follows the rounds exists for every start. -/
theorem witness_TransformFollowsTheRounds (t : TableSet) (start : Halves) (sched : Schedule) :
    ∃ h : Nat → Halves, h 0 = start ∧
      ∀ (r : Nat) (hr : r < 15), h (r + 1) = ⟨(h r).r, roundFunction t (h r).r sched[r] ^^^ (h r).l⟩ :=
  ⟨fun n => Nat.rec start (fun r p => ⟨p.r, roundFunction t p.r (sched.toList.getD r 0) ^^^ p.l⟩) n, rfl,
    fun r hr => by simp [List.getD_eq_getElem?_getD, show r < 16 by omega]⟩
theorem witness_ReversedScheduleInvertsTheTransform : tablesSrc.set.WellFormed := tablesSrc.wf
theorem witness_XformTransformsTheBlock : slotsLoaded.bv = true ∧ slotsLoaded.sv[(0 : Slot)] = true ∧
    slotsLoaded.sv[(2 : Slot)] = true := ⟨rfl, rfl, rfl⟩
theorem witness_OppositeSchedulesRestoreTheBlock : blockLoaded.bv = true := rfl
theorem witness_TxformAppliesTheSlotsInOrder : slotsLoaded.bv = true ∧ ∀ n : Slot, slotsLoaded.sv[n] = true := by
  decide +kernel
theorem witness_TxformEqualsThreeXform : slotsLoaded.bv = true ∧ ∀ n : Slot, slotsLoaded.sv[n] = true := by decide +kernel
theorem witness_TripleComposition : blockLoaded.bv = true := rfl
theorem witness_TripleRoundTrip : tablesStd.set.WellFormed := tablesStd.wf
theorem witness_OppositeModesRestoreTheBlock : blockLoaded.bv = true := rfl
theorem witness_EqualSubKeysCancel : tablesStdSet.WellFormed ∧ subKey keyEq12 .k1 = subKey keyEq12 .k2 ∧
    subKey keyEq23 .k2 = subKey keyEq23 .k3 := ⟨tablesStdSet_wellFormed, by decide, by decide⟩
theorem witness_HexDecodePairsCharacters : hexdecode [0x30, 0x66] = some [0x0F] ∧ hexdecode [0x30] = none ∧
    hexval 0x67 = none := by decide
/-- One chunk and a remainder: bytes 0 and 7 of chunk 0, and the first index past the output. -/
theorem witness_DecodeWritesTheDecryptedChunks :
    (hexdecode (withInput (sixteenDigits ++ digits [0, 0])).ibuf.toSeq).map List.length = some 9 ∧ 0 < 9 / 8 ∧
    8 * (9 / 8) ≤ 8 := by decide +kernel
/-- An odd length without a bad character, and a bad character in an even length. -/
theorem witness_FailedDecodeEmptiesTheOutput : (withInput [0x30]).ilen % 2 = 1 ∧
    ∃ x ∈ (withInput [0x30, 0x67]).ibuf.toSeq, hexval x = none := ⟨rfl, 0x67, by decide, by decide⟩
/-- The same sixteen characters at two places of two strings; a bad character past the last chunk. -/
theorem witness_DecodeFrontLengthAndIndependence :
    (∃ out out', decodeFront tablesStdSet keyB sixteenDigits = some out ∧
      decodeFront tablesStdSet keyB (digits (List.replicate 16 0) ++ sixteenDigits) = some out') ∧
    (sixteenDigits.drop (16 * 0)).take 16 =
      ((digits (List.replicate 16 0) ++ sixteenDigits).drop (16 * 1)).take 16 ∧
    ∃ x ∈ sixteenDigits ++ [0x67], hexval x = none :=
  ⟨⟨_, _, rfl, rfl⟩, by decide, 0x67, by decide, by decide⟩
theorem witness_DecodeReadsOnlyItsInput : (withInput sixteenDigits).par = ((withInput sixteenDigits).writeBlk 5).par ∧
    (withInput sixteenDigits).ibuf = ((withInput sixteenDigits).writeBlk 5).ibuf := ⟨rfl, rfl⟩
theorem witness_DecodeDoesNotDisturbTransforms : ∃ t u v, exec .decode slotsLoaded = .next t ∧ Instr.txform ≠ .decode ∧
    exec .txform slotsLoaded = .next u ∧ exec .txform t = .next v := by
  obtain ⟨_, h⟩ | ⟨_, _, h⟩ := execDecode_cases slotsLoaded
  · exact ⟨_, _, _, h, by decide, rfl, rfl⟩
  · exact ⟨_, _, _, h, by decide, rfl, rfl⟩
theorem witness_SlotCommandsFrame : (∃ t, exec (.ksched 1 .k3 .encrypt) blockLoaded = .next t) ∧ (0 : Slot) ≠ 1 ∧
    (2 : Slot) ≠ 1 ∧ ∃ t, exec (.tsetup .encrypt) blockLoaded = .next t := ⟨⟨_, rfl⟩, by decide, by decide, _, rfl⟩
/-- Each command on a path that completes and on one that raises. -/
theorem witness_BlockCommandsFrame : (∃ t, exec .txform slotsLoaded = .next t) ∧ (∃ t, exec .txform State.reset = .next t) ∧
    (∃ t, exec (.xform 2) slotsLoaded = .next t) ∧ ∃ t, exec (.xform 0) State.reset = .next t ∧ t.err ≠ .ok :=
  ⟨⟨_, rfl⟩, ⟨_, rfl⟩, ⟨_, rfl⟩, _, rfl, by decide⟩
theorem witness_DecodeFrame : (∃ t, exec .decode (withInput [0x30]) = .next t) ∧
    ∃ t, exec .decode (withInput [0x30, 0x31]) = .next t := ⟨⟨_, rfl⟩, _, rfl⟩
theorem witness_EveryStepKeepsGoodOrder : (withInput sixteenDigits).Inv ∧
    ∃ t, step (withInput sixteenDigits) = .next t := ⟨⟨by decide, rfl, by decide, rfl⟩, _, rfl⟩
theorem witness_NothingWritesTheConstants : (∃ t, transact (.cmd 0x60#8) blockLoaded = .next t) ∧
    ∃ t, transact (.ldIbuf [1]) blockLoaded = .next t := ⟨⟨_, rfl⟩, _, rfl⟩
theorem witness_ValidBitsAreNeverCleared :
    (∃ t, step (slotsLoaded.setHost [.cmd 0x22#8]) = .next t) ∧ slotsLoaded.bv = true ∧
    slotsLoaded.sv[(0 : Slot)] = true ∧
    ∃ t, step (State.reset.setHost [.wrBlk 7]) = .next t ∧ State.reset.bv = false ∧ t.bv = true :=
  ⟨⟨_, rfl⟩, rfl, rfl, _, rfl, rfl, rfl⟩
/-- For each clause a step that changes that piece of state. -/
theorem witness_EachStateHasItsWriters :
    (∃ t, step (State.reset.setHost [.cmd 0x22#8]) = .next t ∧ t.sv ≠ State.reset.sv) ∧
    (∃ t, step (slotsLoaded.setHost [.wrBlk 7]) = .next t ∧ t.blk ≠ slotsLoaded.blk) ∧
    (∃ t, step (State.reset.setHost [.wrBlk 7]) = .next t ∧ t.bv ≠ State.reset.bv) ∧
    (∃ t, step (blockLoaded.setHost [.ldIbuf [1]]) = .next t ∧ t.ibuf ≠ blockLoaded.ibuf) ∧
    (∃ t, step ((blockLoaded.writeObuf [1]).setHost [.cmd 0xA0#8]) = .next t ∧ t.obuf ≠ (blockLoaded.writeObuf [1]).obuf) ∧
    ∃ t, step (State.reset.setHost [.cmd 0x00#8]) = .next t ∧ t.err ≠ State.reset.err :=
  ⟨⟨_, rfl, by decide⟩, ⟨_, rfl, by decide⟩, ⟨_, rfl, by decide⟩, ⟨_, rfl, by decide⟩, ⟨_, rfl, by decide⟩,
    _, rfl, by decide⟩
theorem witness_PureCommandsAreIdempotent : (∃ t, exec (.ksched 2 .k2 .decrypt) State.reset = .next t) ∧
    (∃ t, exec (.tsetup .decrypt) State.reset = .next t) ∧ ∃ t, exec .decode (withInput [0x30]) = .next t :=
  ⟨⟨_, rfl⟩, ⟨_, rfl⟩, _, rfl⟩
/-- Two instances at the addresses 0 and 1, three accesses, one instance moving twice. -/
theorem witness_InstancesDoNotInteract :
    (∃ s', transact (.wrBlk 1) State.reset = .next s') ∧
    ∃ m, systemRun PortMap.witness [State.reset, State.reset] [⟨0, .wrBlk 1⟩, ⟨1, .cmd 0x60#8⟩, ⟨0, .rdBlk⟩] = .next m :=
  ⟨⟨_, rfl⟩, _, rfl⟩
/-- An address that is no port of an instance reaches none (60_exceptions R218). -/
theorem test_no_port_at_address :
    addressed PortMap.witness 2 ⟨2, .rdStatus⟩ = none ∧ addressed PortMap.witness 2 ⟨1, .rdStatus⟩ = some 1 := by decide

end Sys2Proof.Tests
end

/-! Bytes and bits (00_scope R8): `be` and `bytesBe` peel off the last, least significant byte in the same way, so they
are inverse to each other by induction on the number of bytes. The sub-keys of KEY (R10) follow. -/

namespace Sys2Proof.Machine

/-- Holds for every `b`, even one that is longer than `n` bytes: both sides drop the same leading bits. -/
theorem be_append_singleton (n : Nat) (b : List Byte) (x : Byte) : be (n + 1) (b ++ [x]) = be n b ++ x := by
  apply BitVec.eq_of_toNat_eq
  have hx : x.toNat < 2 ^ 8 := x.isLt
  have hpow : 2 ^ (8 * (n + 1)) = 2 ^ 8 * 2 ^ (8 * n) := by rw [← pow_add, Nat.mul_succ, Nat.add_comm]
  simp only [be, List.foldl_append, List.foldl_cons, List.foldl_nil, BitVec.toNat_ofNat, BitVec.toNat_append]
  rw [← Nat.shiftLeft_add_eq_or_of_lt hx, Nat.shiftLeft_eq]
  generalize b.foldl (fun acc y => 256 * acc + y.toNat) 0 = m
  have hdiv : (256 * m + x.toNat) / 2 ^ 8 = m := by omega
  rw [hpow, Nat.mod_mul, hdiv]
  omega

theorem bytesBe_succ (n : Nat) (v : BitVec (8 * (n + 1))) :
    bytesBe (n + 1) v = bytesBe n (v.extractLsb' 8 (8 * n)) ++ [v.extractLsb' 0 8] := by
  have hbyte : ∀ i ∈ List.range n, v.extractLsb' (8 * (n + 1 - 1 - i)) 8 =
      (v.extractLsb' 8 (8 * n)).extractLsb' (8 * (n - 1 - i)) 8 := by
    intro i hi
    have hi : i < n := List.mem_range.mp hi
    ext k hk
    have hlow : 8 * (n - 1 - i) + k < 8 * n := by omega
    have hpos : 8 * (n + 1 - 1 - i) + k = 8 + (8 * (n - 1 - i) + k) := by omega
    simp only [BitVec.getElem_extractLsb', BitVec.getLsbD_extractLsb', hlow, hpos, decide_true, Bool.true_and]
  rw [bytesBe, List.range_succ, List.map_append, List.map_congr_left hbyte]
  simp [bytesBe]

@[simp] theorem be_bytesBe (n : Nat) (v : BitVec (8 * n)) : be n (bytesBe n v) = v := by
  induction n with
  | zero => exact (BitVec.eq_nil _).trans (BitVec.eq_nil v).symm
  | succ n ih =>
    rw [bytesBe_succ, be_append_singleton, ih]
    exact BitVec.extractLsb'_append_extractLsb'

theorem bytesBe_be {n : Nat} {b : List Byte} (h : b.length = n) : bytesBe n (be n b) = b := by
  subst h
  induction b using List.reverseRecOn with
  | nil => rfl
  | append_singleton b x ih =>
    rw [List.length_append, List.length_singleton, bytesBe_succ, be_append_singleton]
    have hinit : (be b.length b ++ x).extractLsb' 8 (8 * b.length) = be b.length b :=
      BitVec.extractLsb'_append_eq_left
    have hlast : (be b.length b ++ x).extractLsb' 0 8 = x := BitVec.extractLsb'_append_eq_right
    rw [hinit, hlast, ih]

theorem getElem?_bytesBe_subKey (key : CipherKey) (k : SubKey) {j : Nat} (h : j < 8) :
    (bytesBe 8 (subKey key k))[j]? = key[8 * subKeyIndex k + j]? := by
  have hlen : ((key.toList.drop (8 * subKeyIndex k)).take 8).length = 8 := by cases k <;> simp [subKeyIndex]
  rw [subKey, bytesBe_be hlen, List.getElem?_take_of_lt h, List.getElem?_drop, Vector.getElem?_toList]

/-- Settles O20: each direction by induction on the number of bytes. -/
theorem bytesAndBitsCorrespond : Obligations.BytesAndBitsCorrespond :=
  ⟨fun _ _ h => bytesBe_be h, be_bytesBe⟩

/-- Settles O21: the bytes of a sub-key are the slice of KEY that it was made from. -/
theorem subKeysAreTheThirdsOfTheKey : Obligations.SubKeysAreTheThirdsOfTheKey := by
  intro key j h
  simp [getElem?_bytesBe_subKey key _ h, subKeyIndex]

end Sys2Proof.Machine

/-! What a command leaves, in one form: one update of the block's state, then the value of ERR (10_state R20, R28, R33).
The frames, the writers of each piece of state and the invariant follow from it. -/

namespace Sys2Proof.Machine

/-! ### The outcome of each command -/

/-- What XFORM and TXFORM leave in BLK and ERR: BlockNotReady before SlotNotReady (60_exceptions R207). -/
def blockOutcome (bv ready : Bool) (old new : Block) : Block × Err :=
  match bv, ready with
  | false, _ => (old, .blockNotReady)
  | true, false => (old, .slotNotReady)
  | true, true => (new, .ok)

/-- What DECODE leaves in OBUF and ERR (44_payload_decoder R180, R181). -/
def decodeOutcome (p : Parameters) (ibuf : Memory) : List Byte × Err :=
  match decodeFront p.tables.set p.key ibuf.toSeq with
  | none => ([], .invalidHex)
  | some out => (out, .ok)

/-- The outcome of `XFORM n`. -/
def xformOutcome (n : Slot) (s : State) : Block × Err :=
  blockOutcome s.bv s.sv[n] s.blk (transform s.par.tables.set s.blk s.sched[n])

/-- The outcome of TXFORM. -/
def txformOutcome (s : State) : Block × Err :=
  blockOutcome s.bv s.allSlotsValid s.blk (tripleTransform s.par.tables.set s.blk s.sched)

theorem blockOutcome_fst_of_err {bv ready : Bool} {old new : Block} (h : (blockOutcome bv ready old new).2 ≠ .ok) :
    (blockOutcome bv ready old new).1 = old := by
  cases bv with
  | false => rfl
  | true =>
    cases ready with
    | false => rfl
    | true => exact absurd rfl h

/-- Every chunk decrypts to 8 bytes. -/
theorem eight_dvd_length_decodeFront {t : TableSet} {key : CipherKey} {c out : List Byte}
    (h : decodeFront t key c = some out) : 8 ∣ out.length := by
  rw [decodeFront_eq, Option.map_eq_some_iff] at h
  obtain ⟨b, -, rfl⟩ := h
  simp [List.length_flatMap]

theorem eight_dvd_length_decodeOutcome (p : Parameters) (ibuf : Memory) : 8 ∣ (decodeOutcome p ibuf).1.length := by
  unfold decodeOutcome
  split
  · simp
  · next out h => exact eight_dvd_length_decodeFront h

theorem exec_ksched_eq (n : Slot) (k : SubKey) (d : Direction) (s : State) :
    exec (.ksched n k d) s =
      .next ((s.writeSlot n (generateSchedule s.par.tables.set (subKey s.par.key k) d)).setErr .ok) := rfl

theorem exec_tsetup_eq (m : Mode) (s : State) :
    exec (.tsetup m) s = .next ((s.writeSlots (tripleSetup s.par.tables.set s.par.key m)).setErr .ok) := rfl

theorem exec_xform_eq (n : Slot) (s : State) :
    exec (.xform n) s = .next ((s.setBlk (xformOutcome n s).1).setErr (xformOutcome n s).2) := by
  unfold xformOutcome
  obtain ⟨hb, h⟩ | ⟨hb, hv, h⟩ | ⟨hb, hv, h⟩ := execXform_cases n s
  · rw [hb]; exact h
  · rw [hb, hv]; exact h
  · rw [hb, hv]; exact h

theorem exec_txform_eq (s : State) :
    exec .txform s = .next ((s.setBlk (txformOutcome s).1).setErr (txformOutcome s).2) := by
  unfold txformOutcome
  obtain ⟨hb, h⟩ | ⟨hb, hv, h⟩ | ⟨hb, hv, h⟩ := execTxform_cases s
  · rw [hb]; exact h
  · rw [hb, hv]; exact h
  · rw [hb, hv]; exact h

theorem exec_decode_eq (s : State) :
    exec .decode s = .next ((s.writeObuf (decodeOutcome s.par s.ibuf).1).setErr (decodeOutcome s.par s.ibuf).2) := by
  unfold decodeOutcome
  obtain ⟨hd, h⟩ | ⟨out, hd, h⟩ := execDecode_cases s
  · rw [hd]; exact h
  · rw [hd]; exact h

/-- XFORM and TXFORM write BLK and ERR, and BLK keeps its value where ERR is not 0. -/
theorem blockCommand_next {s t : State} (h : exec .txform s = .next t ∨ ∃ n : Slot, exec (.xform n) s = .next t) :
    ∃ v e, t = (s.setBlk v).setErr e ∧ (e ≠ .ok → v = s.blk) := by
  obtain h | ⟨n, h⟩ := h
  · rw [exec_txform_eq] at h; cases h; exact ⟨_, _, rfl, blockOutcome_fst_of_err⟩
  · rw [exec_xform_eq] at h; cases h; exact ⟨_, _, rfl, blockOutcome_fst_of_err⟩

/-! ### What no command reads -/

/-- No command reads ERR (10_state R28). -/
theorem exec_setErr (i : Instr) (s : State) (e : Err) : exec i (s.setErr e) = exec i s := by
  cases i with
  | ksched n k d => rfl
  | tsetup m => rfl
  | xform n => rw [exec_xform_eq, exec_xform_eq]; rfl
  | txform => rw [exec_txform_eq, exec_txform_eq]; rfl
  | decode => rw [exec_decode_eq, exec_decode_eq]; rfl

theorem command_setErr (c : Byte) (s : State) (e : Err) : command c (s.setErr e) = command c s := by
  unfold command
  cases decode c with
  | ok i => exact exec_setErr i s e
  | error _ => rfl

/-- No command but DECODE reads or writes OBUF. -/
theorem exec_writeObuf {i : Instr} (hi : i ≠ .decode) {s u : State} (out : List Byte) (h : exec i s = .next u) :
    exec i (s.writeObuf out) = .next (u.writeObuf out) := by
  cases i with
  | ksched n k d => cases h; rfl
  | tsetup m => cases h; rfl
  | xform n => rw [exec_xform_eq] at h ⊢; cases h; rfl
  | txform => rw [exec_txform_eq] at h ⊢; cases h; rfl
  | decode => exact absurd rfl hi

/-! ### The effect of a transaction -/

/-- The states that a transaction can leave, by the kind of the transaction: exactly one of the block's writes, or an
answer to the host (10_state R20, 20_memory R56). -/
inductive TransactionEffect (s : State) : Transaction → State → Prop
  | blockWritten (v : Block) : TransactionEffect s (.wrBlk v) (s.writeBlk v)
  | inputLoaded (c : List Byte) (fits : fitsIbuf s.par.ibufCap c.length = true) :
      TransactionEffect s (.ldIbuf c) (s.loadIbuf c)
  | answered (x : Transaction) (r : Reply) : TransactionEffect s x (s.answer r)
  | reserved (c : Byte) : TransactionEffect s (.cmd c) (s.setErr .illegalCommand)
  | slotFilled {c : Byte} {n : Slot} {k : SubKey} {d : Direction} (hc : decode c = .ok (.ksched n k d))
      (v : Schedule) : TransactionEffect s (.cmd c) ((s.writeSlot n v).setErr .ok)
  | slotsFilled {c : Byte} {m : Mode} (hc : decode c = .ok (.tsetup m)) (v : TripleSchedule) :
      TransactionEffect s (.cmd c) ((s.writeSlots v).setErr .ok)
  | blockCommand {c : Byte} (hc : (∃ n, decode c = .ok (.xform n)) ∨ decode c = .ok .txform) (v : Block) (e : Err) :
      TransactionEffect s (.cmd c) ((s.setBlk v).setErr e)
  | payloadDecoded {c : Byte} (hc : decode c = .ok .decode) (out : List Byte) (len : 8 ∣ out.length) (e : Err) :
      TransactionEffect s (.cmd c) ((s.writeObuf out).setErr e)

theorem command_effect {c : Byte} {s t : State} (h : command c s = .next t) : TransactionEffect s (.cmd c) t := by
  obtain ⟨i, hc, hi⟩ | ⟨e, -, he⟩ := command_cases c s
  · rw [hi] at h
    cases i with
    | ksched n k d => rw [exec_ksched_eq] at h; cases h; exact .slotFilled hc _
    | tsetup m => rw [exec_tsetup_eq] at h; cases h; exact .slotsFilled hc _
    | xform n =>
      obtain ⟨v, e, rfl, -⟩ := blockCommand_next (.inr ⟨n, h⟩)
      exact .blockCommand (.inl ⟨n, hc⟩) v e
    | txform =>
      obtain ⟨v, e, rfl, -⟩ := blockCommand_next (.inl h)
      exact .blockCommand (.inr hc) v e
    | decode =>
      rw [exec_decode_eq] at h; cases h
      exact .payloadDecoded hc _ (eight_dvd_length_decodeOutcome _ _) _
  · rw [he] at h; cases h; exact .reserved c

theorem transact_effect {x : Transaction} {s t : State} (h : transact x s = .next t) : TransactionEffect s x t := by
  obtain ⟨c, rfl, hc⟩ | ⟨v, rfl, rfl⟩ | ⟨c, rfl, fits, rfl⟩ | ⟨r, rfl⟩ := transact_next_cases h
  · exact command_effect hc
  · exact .blockWritten v
  · exact .inputLoaded c fits
  · exact .answered x r

theorem step_of_host_cons {s : State} {x : Transaction} {rest : List Transaction} (h : s.host = x :: rest) :
    step s = transact x (s.setHost rest) := by
  rw [step, nextTransaction, h]

/-- A step that answers a next state is idle or has the effect of the host's oldest transaction. -/
theorem step_effect {s t : State} (h : step s = .next t) :
    t = s ∨ ∃ x rest, s.host = x :: rest ∧ TransactionEffect (s.setHost rest) x t := by
  obtain ⟨-, hs⟩ | ⟨x, rest, hx, hs⟩ := step_cases s
  · rw [hs] at h; cases h; exact .inl rfl
  · exact .inr ⟨x, rest, hx, transact_effect (hs.symm.trans h)⟩

/-! ### The invariant -/

theorem State.Inv.of_buffers_eq {s t : State} (h : s.Inv) (hpar : t.par = s.par) (hibuf : t.ibuf = s.ibuf)
    (hobuf : t.obuf = s.obuf) : t.Inv where
  ibuf_wf := hibuf ▸ h.ibuf_wf
  obuf_wf := hobuf ▸ h.obuf_wf
  olen_blocks := by rw [State.olen, hobuf]; exact h.olen_blocks
  ilen_fits := by rw [State.ilen, hpar, hibuf]; exact h.ilen_fits

theorem State.Inv.loadIbuf {s : State} (h : s.Inv) {c : List Byte} (fits : fitsIbuf s.par.ibufCap c.length = true) :
    (s.loadIbuf c).Inv where
  ibuf_wf := Memory.wf_ofSeq c
  obuf_wf := h.obuf_wf
  olen_blocks := h.olen_blocks
  ilen_fits := by simpa [State.ilen] using fits

theorem State.Inv.writeObuf {s : State} (h : s.Inv) {out : List Byte} (len : 8 ∣ out.length) :
    (s.writeObuf out).Inv where
  ibuf_wf := h.ibuf_wf
  obuf_wf := Memory.wf_ofSeq out
  olen_blocks := by simpa [State.olen] using len
  ilen_fits := h.ilen_fits

/-- Only a load and a DECODE touch a buffer, and each replaces it whole, with a sequence of fitting length. -/
theorem State.Inv.effect {s t : State} {x : Transaction} (h : s.Inv) (he : TransactionEffect s x t) : t.Inv := by
  cases he with
  | inputLoaded c fits => exact h.loadIbuf fits
  | payloadDecoded _ out len e => exact (h.writeObuf len).of_buffers_eq rfl rfl rfl
  | blockWritten | answered | reserved | slotFilled | slotsFilled | blockCommand =>
    exact h.of_buffers_eq rfl rfl rfl

/-- Settles O54: an idle step keeps the state, and every transaction keeps the invariant. -/
theorem everyStepKeepsGoodOrder : Obligations.EveryStepKeepsGoodOrder := by
  intro s t h hstep
  obtain rfl | ⟨x, rest, -, he⟩ := step_effect hstep
  · exact h
  · exact (h.of_buffers_eq rfl rfl rfl : (s.setHost rest).Inv).effect he

/-- Settles O53: both buffers are empty at reset. -/
theorem resetIsInGoodOrder : Obligations.ResetIsInGoodOrder where
  ibuf_wf := rfl
  obuf_wf := rfl
  olen_blocks := dvd_zero 8
  ilen_fits := by
    change fitsIbuf Config.ibufCap 0 = true
    cases h : Config.ibufCap <;> simp [fitsIbuf]

/-! ### ERR and STATUS -/

theorem exec_completes_or_raises (i : Instr) (s : State) :
    ∃ t, exec i s = .next t ∧ (t.err = .ok ∨ ∃ x, t = raise x s) := by
  cases i with
  | ksched n k d => exact ⟨_, rfl, .inl rfl⟩
  | tsetup m => exact ⟨_, rfl, .inl rfl⟩
  | xform n =>
    obtain ⟨-, h⟩ | ⟨-, -, h⟩ | ⟨-, -, h⟩ := execXform_cases n s
    · exact ⟨_, h, .inr ⟨_, rfl⟩⟩
    · exact ⟨_, h, .inr ⟨_, rfl⟩⟩
    · exact ⟨_, h, .inl rfl⟩
  | txform =>
    obtain ⟨-, h⟩ | ⟨-, -, h⟩ | ⟨-, -, h⟩ := execTxform_cases s
    · exact ⟨_, h, .inr ⟨_, rfl⟩⟩
    · exact ⟨_, h, .inr ⟨_, rfl⟩⟩
    · exact ⟨_, h, .inl rfl⟩
  | decode =>
    obtain ⟨-, h⟩ | ⟨out, -, h⟩ := execDecode_cases s
    · exact ⟨_, h, .inr ⟨_, rfl⟩⟩
    · exact ⟨_, h, .inl rfl⟩

theorem command_completes_or_raises (c : Byte) (s : State) :
    ∃ t, command c s = .next t ∧ (t.err = .ok ∨ ∃ x, t = raise x s) := by
  obtain ⟨i, -, h⟩ | ⟨e, -, h⟩ := command_cases c s
  · rw [h]; exact exec_completes_or_raises i s
  · exact ⟨_, h, .inr ⟨_, rfl⟩⟩

theorem transact_err_of_not_command {x : Transaction} {s t : State} (hx : ∀ c, x ≠ .cmd c)
    (h : transact x s = .next t) : t.err = s.err := by
  obtain ⟨c, rfl, -⟩ | ⟨v, -, rfl⟩ | ⟨c, -, -, rfl⟩ | ⟨r, rfl⟩ := transact_next_cases h
  · exact absurd rfl (hx c)
  · rfl
  · rfl
  · rfl

theorem Err.code_lt (e : Err) : e.code < 5#4 := by cases e <;> decide

/-- Settles O13: every path of a command ends in `complete` or `raise`, which overwrite ERR, and none reads it. -/
theorem errIsWrittenByEveryCommandAndReadByNone : Obligations.ErrIsWrittenByEveryCommandAndReadByNone :=
  ⟨⟨rfl, Err.code_lt⟩, command_completes_or_raises, command_setErr, fun _ _ _ => transact_err_of_not_command⟩

/-- Settles O10: STATUS is a concatenation of its fields, and reading it is an answer only. -/
theorem statusByteLayout : Obligations.StatusByteLayout := by
  refine ⟨fun s => ?_, rfl, fun s t rest hhost hstep => ?_⟩
  · have herr : s.status.extractLsb' 0 4 = s.err.code := BitVec.extractLsb'_append_eq_right
    refine ⟨herr, ?_⟩
    simp only [State.status, BitVec.getLsbD_append]
    simp
  · rw [step_of_host_cons hhost] at hstep
    cases hstep
    rfl

/-! ### DECODE and the other commands -/

/-- Settles O47: DECODE's outcome is a function of the constants and the input buffer. -/
theorem decodeReadsOnlyItsInput : Obligations.DecodeReadsOnlyItsInput := by
  intro s s' hpar hibuf
  refine ⟨_, _, exec_decode_eq s, exec_decode_eq s', ?_⟩
  rw [hpar, hibuf]
  exact ⟨rfl, rfl⟩

/-- Settles O48: DECODE writes OBUF and ERR, and no other command reads either. -/
theorem decodeDoesNotDisturbTransforms : Obligations.DecodeDoesNotDisturbTransforms := by
  intro s t hdec i hi u v hu hv
  rw [exec_decode_eq] at hdec
  cases hdec
  rw [exec_setErr, exec_writeObuf hi _ hu] at hv
  cases hv
  exact ⟨rfl, rfl, rfl, rfl, rfl⟩

/-! ### Frames -/

theorem SameBuffers.of_eq {s t : State} (hibuf : t.ibuf = s.ibuf) (hobuf : t.obuf = s.obuf) : SameBuffers s t := by
  simp [SameBuffers, State.ilen, State.olen, hibuf, hobuf]

/-- Settles O49: a filled slot leaves the others, and no buffer is written. -/
theorem slotCommandsFrame : Obligations.SlotCommandsFrame := by
  refine fun s t => ⟨fun n k d h => ?_, fun m h => ?_⟩
  · rw [exec_ksched_eq] at h
    cases h
    refine ⟨rfl, rfl, .of_eq rfl rfl, ⟨rfl, rfl, rfl⟩, fun m hm => ?_⟩
    have hne : n.val ≠ m.val := fun h => hm (Fin.ext h.symm)
    simp [Vector.getElem_set_ne, hne]
  · rw [exec_tsetup_eq] at h
    cases h
    exact ⟨rfl, rfl, .of_eq rfl rfl, rfl, rfl, rfl⟩

/-- Settles O50: BLK and ERR are all that is written, on every path. -/
theorem blockCommandsFrame : Obligations.BlockCommandsFrame := by
  intro s t h
  obtain ⟨v, e, rfl, hkept⟩ := blockCommand_next h
  exact ⟨rfl, rfl, rfl, .of_eq rfl rfl, ⟨rfl, rfl, rfl⟩, hkept⟩

/-- Settles O51: OBUF becomes exactly the decoded sequence. -/
theorem decodeFrame : Obligations.DecodeFrame := by
  intro s t h
  rw [exec_decode_eq] at h
  cases h
  refine ⟨rfl, rfl, rfl, rfl, ⟨rfl, rfl, rfl⟩, fun _ => rfl, rfl, fun a ha => ?_⟩
  simpa [State.olen] using ha

/-! ### Valid bits and writers -/

theorem TransactionEffect.bv_eq_or_blockWritten {s t : State} {x : Transaction} (h : TransactionEffect s x t) :
    t.bv = s.bv ∨ ∃ v, x = .wrBlk v ∧ t = s.writeBlk v := by
  cases h with
  | blockWritten v => exact .inr ⟨v, rfl, rfl⟩
  | inputLoaded | answered | reserved | slotFilled | slotsFilled | blockCommand | payloadDecoded => exact .inl rfl

theorem TransactionEffect.slotValid_kept {s t : State} {x : Transaction} (h : TransactionEffect s x t) {n : Slot}
    (hn : s.sv[n] = true) : t.sv[n] = true := by
  cases h with
  | @slotFilled c m =>
    by_cases hm : m.val = n.val
    · simp [hm]
    · simpa [Vector.getElem_set_ne, hm] using hn
  | slotsFilled => fin_cases n <;> rfl
  | blockWritten | inputLoaded | answered | reserved | blockCommand | payloadDecoded => exact hn

/-- Settles O56: the only writes of valid bits set them, and only the host's write of the block writes BV. -/
theorem validBitsAreNeverCleared : Obligations.ValidBitsAreNeverCleared := by
  intro s t hstep
  obtain rfl | ⟨x, rest, hx, he⟩ := step_effect hstep
  · exact ⟨id, fun _ => id, fun h0 h1 => by simp [h0] at h1⟩
  · refine ⟨fun h1 => ?_, fun n => he.slotValid_kept, fun h0 h1 => ?_⟩
    · obtain hbv | ⟨v, -, rfl⟩ := he.bv_eq_or_blockWritten
      · exact hbv.trans h1
      · rfl
    · obtain hbv | ⟨v, rfl, rfl⟩ := he.bv_eq_or_blockWritten
      · simp [hbv, h0] at h1
      · exact ⟨v, rest, hx, rfl⟩

/-- Settles O57: each piece of state is written by the effects of its own transactions only. -/
theorem eachStateHasItsWriters : Obligations.EachStateHasItsWriters := by
  intro s t hstep
  obtain rfl | ⟨x, rest, hx, he⟩ := step_effect hstep
  · simp
  · cases he with
    | answered => simp
    | blockWritten | inputLoaded | reserved => simp [hx]
    | slotFilled hc | slotsFilled hc | blockCommand hc | payloadDecoded hc => simp [hx, hc]

/-! ### The reset state -/

/-- Settles O52: the valid bits, ERR and both buffers are cleared, the constants stay. -/
theorem resetState : Obligations.ResetState := by
  have hsv : ∀ n : Slot, State.reset.sv[n] = false := by simp [State.reset, Fin.forall_fin_succ]
  exact ⟨⟨rfl, hsv, rfl, rfl, rfl, rfl⟩, fun s => ⟨rfl, hsv, rfl, rfl, rfl, rfl⟩⟩

/-! ### Instances (10_state R35, 60_exceptions R218) -/

theorem systemStep_at_port (map : PortMap) {insts : List State} {n : Nat} {s s' : State} {t : Transaction}
    (rest : List Access) (hn : insts[n]? = some s) (ht : transact t s = .next s') :
    systemStep map ⟨insts, ⟨map.address n (portOf t), t⟩ :: rest⟩ = .next ⟨insts.set n s', rest⟩ := by
  have hlt : n < insts.length := (List.getElem?_eq_some_iff.1 hn).1
  have haddr : addressed map insts.length ⟨map.address n (portOf t), t⟩ = some n :=
    addressed_iff.2 ⟨hlt, Access.reaches_iff.2 rfl⟩
  simp [systemStep, haddr, hn, step_issueTransaction, ht]

/-- An access that is not refused: of the instances, the one that it reaches makes its transaction. -/
theorem systemStep_cons_next {map : PortMap} {insts : List State} {a : Access} {rest : List Access} {m : System}
    (h : systemStep map ⟨insts, a :: rest⟩ = .next m) :
    ∃ n s s', a.reaches map n = true ∧ insts[n]? = some s ∧ transact a.transaction s = .next s' ∧
      m = ⟨insts.set n s', rest⟩ := by
  simp only [systemStep, step_issueTransaction] at h
  split at h
  · cases h
  · next n haddr =>
    split at h
    · cases h
    · next s hs =>
      split at h
      · next s' ht => cases h; exact ⟨n, s, s', (addressed_iff.1 haddr).2, hs, ht, rfl⟩
      · cases h
      · cases h

/-- A run over an access and more is that access, then a run over the rest. -/
theorem systemRun_cons_next {map : PortMap} {insts : List State} {a : Access} {rest : List Access} {m : System}
    (h : systemRun map insts (a :: rest) = .next m) :
    ∃ m', systemStep map ⟨insts, a :: rest⟩ = .next m' ∧ systemRun map m'.insts rest = .next m := by
  rw [systemRun] at h
  split at h
  · next m' hm => exact ⟨m', hm, h⟩
  · cases h
  · cases h

/-- The state with transactions issued before those that wait. -/
def State.issueAll (s : State) (ts : List Transaction) : State := { s with host := ts ++ s.host }

theorem run_succ_of_step {M : Host.Core} {s s' : M.State} (h : M.step s = .next s') (k : Nat) :
    M.run (k + 1) s = M.run k s' := by
  rw [Host.Core.run, h]

/-- A run over issued transactions starts with the first of them. -/
theorem run_issueAll_cons {t : Transaction} {s s' : State} (ht : transact t s = .next s') (ts : List Transaction) :
    core.run (t :: ts).length (s.issueAll (t :: ts)) = core.run ts.length (s'.issueAll ts) := by
  obtain ⟨htail, hhost⟩ := transact_setHost (ts ++ s.host) ht
  have hstep : core.step (s.issueAll (t :: ts)) = .next (s'.issueAll ts) := by
    rw [State.issueAll, State.issueAll, hhost]; exact htail
  exact run_succ_of_step hstep ts.length

theorem transactionsOf_cons (map : PortMap) (n : Nat) (a : Access) (rest : List Access) :
    transactionsOf map n (a :: rest) =
      if a.reaches map n = true then a.transaction :: transactionsOf map n rest else transactionsOf map n rest := by
  unfold transactionsOf
  rw [List.filter_cons]
  split <;> rfl

/-- An interleaving that runs to its end leaves each of the instances as its own transactions leave it alone. -/
theorem systemRun_eq_solo_runs {map : PortMap} {insts : List State} {accesses : List Access} {m : System}
    (h : systemRun map insts accesses = .next m) :
    m.insts.length = insts.length ∧
    ∀ (n : Nat) (s : State), insts[n]? = some s →
      ∃ s', m.insts[n]? = some s' ∧
        core.run (transactionsOf map n accesses).length (s.issueAll (transactionsOf map n accesses)) = .next s' := by
  induction accesses generalizing insts with
  | nil => cases h; exact ⟨rfl, fun n s hn => ⟨s, hn, rfl⟩⟩
  | cons a rest ih =>
    obtain ⟨_, hstep, hrun⟩ := systemRun_cons_next h
    obtain ⟨k, sk, sk', hreach, hk, ht, rfl⟩ := systemStep_cons_next hstep
    obtain ⟨hlen, hsolo⟩ := ih hrun
    refine ⟨hlen.trans List.length_set, fun n s hn => ?_⟩
    rw [transactionsOf_cons]
    by_cases hkn : k = n
    · subst hkn
      obtain rfl : sk = s := Option.some.inj (hk.symm.trans hn)
      have hset : (insts.set k sk')[k]? = some sk' := by
        rw [List.getElem?_set_self (List.getElem?_eq_some_iff.1 hn).1]
      rw [if_pos hreach, run_issueAll_cons ht]
      exact hsolo k sk' hset
    · have hother : ¬ a.reaches map n = true := fun hr => hkn (Access.reaches_unique hreach hr)
      have hset : (insts.set k sk')[n]? = some s := by rw [List.getElem?_set_ne hkn, hn]
      rw [if_neg hother]
      exact hsolo n s hset

/-- Settles O60: no address belongs to two instances, and induction over the accesses. -/
theorem instancesDoNotInteract : Obligations.InstancesDoNotInteract :=
  fun map _ => ⟨fun _ _ _ _ rest => systemStep_at_port map rest, fun _ _ => systemRun_eq_solo_runs⟩

end Sys2Proof.Machine

/-! The commands whose result their own inputs fix (20_memory R54): where DECODE puts each byte, and what a second issue of
a command writes. -/

namespace Sys2Proof.Machine

/-! ### The bytes of DECODE's output (44_payload_decoder R174, R176) -/

/-- In a concatenation of pieces of one length `n`, index `n * k + j` is index `j` of piece `k`. -/
theorem getElem?_flatMap_of_length_eq {α β : Type} {l : List α} {f : α → List β} {n j : Nat}
    (hlen : ∀ x ∈ l, (f x).length = n) (hj : j < n) (k : Nat) :
    (l.flatMap f)[n * k + j]? = l[k]?.bind fun x => (f x)[j]? := by
  induction l generalizing k with
  | nil => simp
  | cons x rest ih =>
    have hx : (f x).length = n := hlen x List.mem_cons_self
    rw [List.flatMap_cons]
    cases k with
    | zero => simp [List.getElem?_append_left, hx, hj]
    | succ k =>
      have hpast : n * (k + 1) + j = (f x).length + (n * k + j) := by rw [hx, Nat.mul_succ]; omega
      rw [hpast, List.getElem?_append_right (Nat.le_add_right _ _), Nat.add_sub_cancel_left]
      exact ih (fun y hy => hlen y (List.mem_cons_of_mem x hy)) k

theorem getElem?_bytesBe {n j : Nat} (h : j < n) (v : BitVec (8 * n)) :
    (bytesBe n v)[j]? = some (v.extractLsb' (8 * (n - 1 - j)) 8) := by
  simp [bytesBe, h]

theorem getElem?_chunks8 {b : List Byte} {k : Nat} (h : k < b.length / 8) :
    (chunks8 b)[k]? = some ((b.drop (8 * k)).take 8) := by
  simp [chunks8, h]

theorem length_decodeFront {t : TableSet} {key : CipherKey} {c b out : List Byte} (hb : hexdecode c = some b)
    (h : decodeFront t key c = some out) : out.length = 8 * (b.length / 8) := by
  rw [decodeFront_eq, hb] at h
  cases h
  simp [List.length_flatMap, Nat.mul_comm]

theorem getElem?_decodeFront {t : TableSet} {key : CipherKey} {c b out : List Byte} (hb : hexdecode c = some b)
    (h : decodeFront t key c = some out) {k j : Nat} (hk : k < b.length / 8) (hj : j < 8) :
    out[8 * k + j]? = some (decryptedByte t key b k j) := by
  rw [decodeFront_eq, hb] at h
  cases h
  have hshift : 8 * (8 - 1 - j) = 56 - 8 * j := by omega
  rw [getElem?_flatMap_of_length_eq (fun _ _ => length_decryptChunk ..) hj, getElem?_chunks8 hk, Option.bind_some,
    decryptChunk, getElem?_bytesBe hj, hshift, decryptedByte]

/-- Settles O44: OBUF holds the decoded sequence and nothing past its end. -/
theorem decodeWritesTheDecryptedChunks : Obligations.DecodeWritesTheDecryptedChunks := by
  intro s b hb
  obtain ⟨hnone, -⟩ | ⟨out, hout, hexec⟩ := execDecode_cases s
  · rw [decodeFront_eq, hb] at hnone
    cases hnone
  · have hlen := length_decodeFront hb hout
    refine ⟨_, hexec, rfl, ?_, fun k j hk hj => ?_, fun a ha => ?_⟩
    · simpa [State.olen] using hlen
    · simpa using getElem?_decodeFront hb hout hk hj
    · simpa [hlen] using ha

/-! ### Repeated writes -/

theorem State.writeSlot_writeSlot (s : State) (n : Slot) (v w : Schedule) :
    (s.writeSlot n v).writeSlot n w = s.writeSlot n w := by
  simp [State.writeSlot]

/-- Settles O58: no command reads ERR, none of the three reads what it writes, and its second write replaces the first. -/
theorem pureCommandsAreIdempotent : Obligations.PureCommandsAreIdempotent := by
  rintro s t i (⟨n, k, d, rfl⟩ | ⟨m, rfl⟩ | rfl) h
  · rw [exec_ksched_eq] at h
    cases h
    rw [exec_setErr, exec_ksched_eq, State.writeSlot_writeSlot]
    rfl
  · rw [exec_tsetup_eq] at h
    cases h
    rfl
  · rw [exec_decode_eq] at h
    cases h
    rw [exec_setErr, exec_decode_eq]
    rfl

end Sys2Proof.Machine

/-! The command words (30_encoding): a word is its four fields and each operand is one value of its field, so a word
decodes to a command exactly when its fields are the command's. The legal words, and what a command word runs, follow. -/

namespace Sys2Proof

/-! ### A word and its fields (30_encoding R71) -/

@[simp] theorem wordOf_fieldsOf (c : Byte) : wordOf (fieldsOf c) = c := by
  apply BitVec.eq_of_getLsbD_eq
  intro i hi
  simp only [wordOf, fieldsOf, BitVec.getLsbD_append, BitVec.getLsbD_extractLsb']
  interval_cases i <;> simp

@[simp] theorem fieldsOf_wordOf (f : CommandFields) : fieldsOf (wordOf f) = f := by
  obtain ⟨op, s, k, d⟩ := f
  simp only [wordOf, fieldsOf, CommandFields.mk.injEq]
  refine ⟨?_, ?_, ?_, ?_⟩ <;>
  · apply BitVec.eq_of_getLsbD_eq
    intro i hi
    simp only [BitVec.getLsbD_append, BitVec.getLsbD_extractLsb']
    interval_cases i <;> simp

/-! ### An operand and its field (30_encoding R72, R73, R74) -/

theorem slotOfField_eq_some_iff {f : BitVec 2} {n : Slot} : slotOfField f = some n ↔ f = slotField n := by
  revert f n; decide

theorem subKeyOfField_eq_some_iff {f : BitVec 2} {k : SubKey} : subKeyOfField f = some k ↔ f = subKeyField k := by
  revert f; cases k <;> decide

@[simp] theorem slotOfField_slotField (n : Slot) : slotOfField (slotField n) = some n :=
  slotOfField_eq_some_iff.2 rfl

@[simp] theorem subKeyOfField_subKeyField (k : SubKey) : subKeyOfField (subKeyField k) = some k :=
  subKeyOfField_eq_some_iff.2 rfl

@[simp] theorem directionOfField_directionField (d : Direction) : directionOfField (directionField d) = d := by
  cases d <;> rfl

@[simp] theorem directionField_directionOfField (f : BitVec 1) : directionField (directionOfField f) = f := by
  revert f; decide

theorem checkUnused_eq_ok_iff {f : CommandFields} {dFree : Bool} {i j : Instr} :
    checkUnused f dFree i = .ok j ↔ f.k = 0#2 ∧ (dFree = false → f.d = 0#1) ∧ i = j := by
  unfold checkUnused
  split
  · simp_all
  · split
    · simp_all
    · cases dFree <;> simp_all

/-! ### A command and its word (30_encoding R76) -/

/-- The fields of a command's word. -/
def Instr.fields (i : Instr) : CommandFields :=
  match i with
  | .ksched n k d => ⟨0b001#3, slotField n, subKeyField k, directionField d⟩
  | .xform n => ⟨0b010#3, slotField n, 0#2, 0#1⟩
  | .tsetup m => ⟨0b011#3, 0#2, 0#2, directionField m⟩
  | .txform => ⟨0b100#3, 0#2, 0#2, 0#1⟩
  | .decode => ⟨0b101#3, 0#2, 0#2, 0#1⟩

theorem encode_eq_wordOf_fields (i : Instr) : encode i = wordOf i.fields := by cases i <;> rfl

theorem eq_encode_iff_fieldsOf_eq {c : Byte} {i : Instr} : c = encode i ↔ fieldsOf c = i.fields := by
  rw [encode_eq_wordOf_fields]
  constructor
  · rintro rfl; exact fieldsOf_wordOf _
  · intro h; rw [← h, wordOf_fieldsOf]

theorem fieldsOf_eq_of_decode_eq_ok {c : Byte} {i : Instr} (h : decode c = .ok i) : fieldsOf c = i.fields := by
  unfold decode at h
  generalize fieldsOf c = f at h ⊢
  obtain ⟨op, s, k, d⟩ := f
  dsimp only at h
  split at h
  case h_1 => -- KSCHED
    split at h
    · cases h
    · cases h
    · next n k' hn hk =>
      cases h
      simp [Instr.fields, slotOfField_eq_some_iff.1 hn, subKeyOfField_eq_some_iff.1 hk]
  case h_2 => -- XFORM
    split at h
    · cases h
    · next n hn =>
      obtain ⟨hk, hd, rfl⟩ := checkUnused_eq_ok_iff.1 h
      simp_all [Instr.fields, slotOfField_eq_some_iff.1 hn]
  case h_6 => cases h -- a reserved operation
  all_goals -- TSETUP, TXFORM and DECODE: no slot
    split at h
    · cases h
    · obtain ⟨hk, hd, rfl⟩ := checkUnused_eq_ok_iff.1 h
      simp_all [Instr.fields]

theorem decode_encode (i : Instr) : decode (encode i) = .ok i := by
  unfold decode
  rw [eq_encode_iff_fieldsOf_eq.1 rfl]
  cases i with
  | ksched n k d => simp [Instr.fields]
  | xform n => simp [Instr.fields, checkUnused_eq_ok_iff]
  | tsetup m => simp [Instr.fields, checkUnused_eq_ok_iff]
  | txform => rfl
  | decode => rfl

theorem decode_eq_ok_iff {c : Byte} {i : Instr} : decode c = .ok i ↔ c = encode i :=
  ⟨fun h => eq_encode_iff_fieldsOf_eq.2 (fieldsOf_eq_of_decode_eq_ok h), fun h => h ▸ decode_encode i⟩

/-- Settles O1: a word is its fields, and each field of a command's word has one value. -/
theorem everyCommandHasExactlyOneWord : Obligations.EveryCommandHasExactlyOneWord :=
  fun _ _ => decode_eq_ok_iff

/-! ### The legal words (30_encoding R76, R77) -/

/-- Every command, in the order of its word. -/
def Instr.all : List Instr :=
  ((List.finRange 3).flatMap fun n => [SubKey.k1, .k2, .k3].flatMap fun k =>
    [Direction.encrypt, .decrypt].map (Instr.ksched n k)) ++
  (List.finRange 3).map .xform ++ [.tsetup .encrypt, .tsetup .decrypt, .txform, .decode]

theorem Instr.mem_all (i : Instr) : i ∈ Instr.all := by
  cases i with
  | ksched n k d => cases k <;> cases d <;> simp [all]
  | xform n => simp [all]
  | tsetup m => cases m <;> simp [all]
  | txform => simp [all]
  | decode => simp [all]

/-- The legal words are the words of the commands. -/
theorem decode_ok_iff_mem_map_encode {c : Byte} : (∃ i, decode c = .ok i) ↔ c ∈ Instr.all.map encode := by
  simp only [decode_eq_ok_iff, List.mem_map, Instr.mem_all, true_and]
  exact exists_congr fun _ => eq_comm

theorem encode_ksched (n : Slot) (k : SubKey) (d : Direction) : encode (.ksched n k d) =
    BitVec.ofNat 8 (0x20 + 8 * n.val + 2 * (Machine.subKeyIndex k + 1) + (directionField d).toNat) := by
  revert n; cases k <;> cases d <;> decide

/-- Settles O2: the list is the words of all commands, and each command decodes from its own word. -/
theorem opcodeMapIsComplete : Obligations.OpcodeMapIsComplete :=
  ⟨fun _ => decode_ok_iff_mem_map_encode,
    fun n k => ⟨decode_eq_ok_iff.2 (encode_ksched n k .encrypt).symm,
      decode_eq_ok_iff.2 (encode_ksched n k .decrypt).symm⟩,
    decode_encode (.xform 0), decode_encode (.xform 1), decode_encode (.xform 2), decode_encode (.tsetup .encrypt),
    decode_encode (.tsetup .decrypt), decode_encode .txform, decode_encode .decode⟩

/-! ### The legal fields (30_encoding R72, R73, R74, R77) -/

theorem CommandFields.opLegal_iff {f : CommandFields} :
    f.opLegal = true ↔ f.op = 1#3 ∨ f.op = 2#3 ∨ f.op = 3#3 ∨ f.op = 4#3 ∨ f.op = 5#3 := by
  unfold opLegal
  generalize f.op = op
  revert op; decide

theorem slotOfField_eq_none_iff {f : BitVec 2} : slotOfField f = none ↔ f = 3#2 := by
  revert f; decide

theorem subKeyOfField_eq_none_iff {f : BitVec 2} : subKeyOfField f = none ↔ f = 0#2 := by
  revert f; decide

theorem exists_eq_slotField {f : BitVec 2} (h : f ≠ 3#2) : ∃ n, f = slotField n :=
  (Option.ne_none_iff_exists'.1 (mt slotOfField_eq_none_iff.1 h)).imp fun _ => slotOfField_eq_some_iff.1

theorem exists_eq_subKeyField {f : BitVec 2} (h : f ≠ 0#2) : ∃ k, f = subKeyField k :=
  (Option.ne_none_iff_exists'.1 (mt subKeyOfField_eq_none_iff.1 h)).imp fun _ => subKeyOfField_eq_some_iff.1

theorem exists_eq_directionField (f : BitVec 1) : ∃ d, f = directionField d :=
  ⟨_, (directionField_directionOfField f).symm⟩

/-- Field by field, what the rules allow is an operand's field or 0. -/
theorem exists_fields_eq_of_wellFormed {f : CommandFields} (h : f.wellFormed = true) : ∃ i : Instr, f = i.fields := by
  obtain ⟨op, s, k, d⟩ := f
  simp only [CommandFields.wellFormed, Bool.and_eq_true, CommandFields.opLegal_iff] at h
  obtain ⟨⟨⟨hop, hs⟩, hk⟩, hd⟩ := h
  obtain rfl | rfl | rfl | rfl | rfl := hop <;>
    simp [CommandFields.slotLegal, CommandFields.subKeyLegal, CommandFields.directionLegal] at hs hk hd
  · obtain ⟨n, rfl⟩ := exists_eq_slotField hs
    obtain ⟨k, rfl⟩ := exists_eq_subKeyField hk
    obtain ⟨d, rfl⟩ := exists_eq_directionField d
    exact ⟨.ksched n k d, rfl⟩
  · obtain ⟨n, rfl⟩ := exists_eq_slotField hs
    subst hk hd
    exact ⟨.xform n, rfl⟩
  · obtain ⟨m, rfl⟩ := exists_eq_directionField d
    subst hs hk
    exact ⟨.tsetup m, rfl⟩
  · subst hs hk hd
    exact ⟨.txform, rfl⟩
  · subst hs hk hd
    exact ⟨.decode, rfl⟩

theorem Instr.fields_wellFormed (i : Instr) : i.fields.wellFormed = true := by
  rw [← eq_encode_iff_fieldsOf_eq.1 rfl]
  cases i with
  | ksched n k d => exact Laws.LegalWord.ksched n k d
  | xform n => exact Laws.LegalWord.xform n
  | tsetup m => exact Laws.LegalWord.tsetup m
  | txform => exact Laws.LegalWord.txform
  | decode => exact Laws.LegalWord.decode

/-- Settles O3: the well-formed fields are exactly those of the words of the commands. -/
theorem decoderAcceptsExactlyTheLegalFields : Obligations.DecoderAcceptsExactlyTheLegalFields := by
  intro c
  simp only [decode_eq_ok_iff, eq_encode_iff_fieldsOf_eq]
  exact ⟨fun ⟨i, hi⟩ => hi ▸ i.fields_wellFormed, exists_fields_eq_of_wellFormed⟩

/-- Settles O4: a sample word of a command is the command's own, and the others fail the check they are named after. -/
theorem sampleWordsDecodeAsListed : Obligations.SampleWordsDecodeAsListed :=
  ⟨decode_encode (.ksched 1 .k2 .decrypt), decode_encode (.ksched 2 .k3 .decrypt), decode_encode (.xform 1),
    decode_encode (.tsetup .decrypt), decode_encode .txform, decode_encode .decode, rfl, rfl, rfl, rfl⟩

end Sys2Proof

namespace Sys2Proof.Machine

/-! ### What a command word runs (30_encoding R77, R81) -/

theorem command_encode (i : Instr) (s : State) : command (encode i) s = exec i s := by
  rw [command, decode_encode]

theorem command_of_not_wellFormed {c : Byte} (h : (fieldsOf c).wellFormed = false) (s : State) :
    command c s = .next (raise .illegalCommand s) := by
  obtain ⟨i, hi, -⟩ | ⟨_, -, hc⟩ := command_cases c s
  · simp [(decoderAcceptsExactlyTheLegalFields c).1 ⟨i, hi⟩] at h
  · exact hc

/-- Settles O5: the 256 words are counted, and a word with an illegal field decodes to no command. -/
theorem reservedWordRaisesIllegalCommand : Obligations.ReservedWordRaisesIllegalCommand :=
  ⟨by decide +kernel, fun s _ h => command_of_not_wellFormed h s⟩

theorem set_every_index {α : Type} (v : Vector α 3) (a b c : α) :
    ((v.set 0 a).set 1 b).set 2 c = #v[a, b, c] := by
  ext i hi
  interval_cases i <;> simp

/-- Filling the slots one by one, with ERR written after each, is filling all three. -/
theorem State.writeSlot_every_slot (s : State) (a b c : Schedule) (e₀ e₁ e₂ : Err) :
    (((((s.writeSlot 0 a).setErr e₀).writeSlot 1 b).setErr e₁).writeSlot 2 c).setErr e₂ =
      (s.writeSlots #v[a, b, c]).setErr e₂ := by
  simp [State.writeSlot, State.writeSlots, State.setErr, set_every_index]

/-- TSETUP is three KSCHED, one for each slot of its table (43_triple_chaining R155, R156). -/
theorem exec_tsetup_eq_three_ksched {s : State} {m : Mode} {k₀ k₁ k₂ : SubKey} {d₀ d₁ d₂ : Direction}
    (h : tripleSetup s.par.tables.set s.par.key m = #v[generateSchedule s.par.tables.set (subKey s.par.key k₀) d₀,
      generateSchedule s.par.tables.set (subKey s.par.key k₁) d₁,
      generateSchedule s.par.tables.set (subKey s.par.key k₂) d₂]) :
    ∃ s₁ s₂ s₃, exec (.ksched 0 k₀ d₀) s = .next s₁ ∧ exec (.ksched 1 k₁ d₁) s₁ = .next s₂ ∧
      exec (.ksched 2 k₂ d₂) s₂ = .next s₃ ∧ exec (.tsetup m) s = .next s₃ := by
  refine ⟨_, _, _, exec_ksched_eq .., exec_ksched_eq .., exec_ksched_eq .., ?_⟩
  rw [exec_tsetup_eq, h, State.writeSlot_every_slot]
  rfl

/-- Settles O34: each word runs its command, and the slots hold TSETUP's table. -/
theorem tsetupEqualsThreeKsched : Obligations.TsetupEqualsThreeKsched := by
  intro s
  have henc := exec_tsetup_eq_three_ksched (s := s) (m := .encrypt) rfl
  have hdec := exec_tsetup_eq_three_ksched (s := s) (m := .decrypt) rfl
  simp only [← command_encode] at henc hdec
  exact ⟨henc, hdec⟩

end Sys2Proof.Machine

/-! Tables and primitives (40_tables_and_primitives). A table of which `U[T[j]] = j` (R91) makes `perm` by T take back
`perm` by U; on a bijection of 1..W that relation is symmetric and fixes U. Rotation and the S-box index are told bit by
bit, the boxes of the reference sets entry by entry. -/

namespace Sys2Proof.Machine

/-! ### Permutations and inverse tables (40 R90, R91) -/

/-- Settles O15: a position counted from the most significant end is a bit index from that end. -/
theorem permSelectsPositions : Obligations.PermSelectsPositions := by
  intro n w t v j h
  rw [bitm_eq_getMsbD _ _ (Nat.le_add_left 1 j) h, Nat.add_sub_cancel, getMsbD_perm t v j h]

/-- `U[T[j]] = j` for every `j` (40 R91). -/
def UndoesTable (u t : Vector Nat w) : Prop := ∀ (j : Nat) (h : j < w), u.toList[t[j] - 1]? = some (j + 1)

theorem UndoesTable.getElem_of_entry {u t : Vector Nat w} (hu : UndoesTable u t) {j p : Nat} (hj : j < w) (hp : p < w)
    (hentry : t[j] = p + 1) : u[p] = j + 1 := by
  simpa [hentry, hp] using hu j hj

theorem entry_bounds {t : Vector Nat n} (ht : entriesWithin t.toList w) {j : Nat} (hj : j < n) : 1 ≤ t[j] ∧ t[j] ≤ w :=
  ht t[j] (by simp)

theorem UndoesTable.perm_perm {u t : Vector Nat w} (hu : UndoesTable u t) (ht : entriesWithin t.toList w)
    (v : BitVec w) : perm t (perm u v) = v := by
  apply BitVec.eq_of_getMsbD_eq
  intro j hj
  obtain ⟨hpos, hle⟩ := entry_bounds ht hj
  have hp : t[j] - 1 < w := by omega
  have hentry : u[t[j] - 1] = j + 1 := hu.getElem_of_entry hj hp (by omega)
  rw [getMsbD_perm t _ j hj, bitm_eq_getMsbD _ _ hpos hle, getMsbD_perm u v _ hp, hentry,
    bitm_eq_getMsbD _ _ (Nat.le_add_left 1 j) hj, Nat.add_sub_cancel]

theorem inverse_undoesTable {t : Vector Nat w} (ht : entriesWithin t.toList w) (hnodup : t.toList.Nodup) :
    UndoesTable (inverse t) t := by
  intro j hj
  obtain ⟨hpos, hle⟩ := entry_bounds ht hj
  have hp : t[j] - 1 < w := by omega
  have hplace : t.toList.idxOf t[j] = j := hnodup.idxOf_getElem j (by simpa using hj)
  simp [inverse, hp, Nat.sub_add_cancel hpos, hplace]

/-- A table of distinct positions in 1..w names every one of them. -/
theorem exists_entry_eq {t : Vector Nat w} (ht : entriesWithin t.toList w) (hnodup : t.toList.Nodup) {p : Nat}
    (hp : p < w) : ∃ (j : Nat) (hj : j < w), t[j] = p + 1 := by
  have hsub : t.toList ⊆ List.range' 1 w := fun x hx => by
    obtain ⟨hpos, hle⟩ := ht x hx
    exact List.mem_range'_1.2 (by omega)
  have hperm : t.toList.Perm (List.range' 1 w) := (List.subperm_of_subset hnodup hsub).perm_of_length_le (by simp)
  have hmem : p + 1 ∈ t.toList := hperm.mem_iff.2 (List.mem_range'_1.2 (by omega))
  simpa [Vector.mem_iff_getElem] using hmem

section
variable {u t : Vector Nat w} (hu : UndoesTable u t) (ht : entriesWithin t.toList w) (hnodup : t.toList.Nodup)
include hu ht hnodup

theorem UndoesTable.eq_inverse : u = inverse t := by
  ext p hp
  obtain ⟨j, hj, hentry⟩ := exists_entry_eq ht hnodup hp
  rw [hu.getElem_of_entry hj hp hentry, (inverse_undoesTable ht hnodup).getElem_of_entry hj hp hentry]

theorem UndoesTable.symm : UndoesTable t u := by
  intro p hp
  obtain ⟨j, hj, hentry⟩ := exists_entry_eq ht hnodup hp
  simp [hu.getElem_of_entry hj hp hentry, hj, hentry]

theorem UndoesTable.entriesWithin_width : entriesWithin u.toList w := by
  intro x hx
  obtain ⟨p, hp, rfl⟩ := Vector.mem_iff_getElem.1 (Vector.mem_toList_iff.1 hx)
  obtain ⟨j, hj, hentry⟩ := exists_entry_eq ht hnodup hp
  rw [hu.getElem_of_entry hj hp hentry]
  omega

end

/-- Settles O16: the inverse table undoes the table, and on a bijection that holds the other way round too. -/
theorem inverseTableUndoesATable : Obligations.InverseTableUndoesATable := by
  intro w t v ht hnodup
  have hinv := inverse_undoesTable ht hnodup
  exact ⟨hinv, (hinv.symm ht hnodup).perm_perm (hinv.entriesWithin_width ht hnodup) v, hinv.perm_perm ht v⟩

/-- Settles O17: FP undoes IP, and the table that undoes a bijection is its inverse. -/
theorem finalPermutationUndoesTheInitial : Obligations.FinalPermutationUndoesTheInitial := by
  rintro t v ⟨hip, hfp, -, -, -, -, -, -, hnodup, hentries⟩
  have hundo : UndoesTable t.fp t.ip := fun j hj => hentries ⟨j, hj⟩
  exact ⟨hundo.eq_inverse hip hnodup, (hundo.symm hip hnodup).perm_perm hfp v, hundo.perm_perm hip v⟩

/-! ### Rotation (40 R92) -/

theorem getMsbD_rotl28 (v : KeyHalf) (n : Nat) {i : Nat} (h : i < 28) :
    (rotl28 v n).getMsbD i = v.getMsbD ((n + i) % 28) := by
  simp [rotl28, BitVec.getMsbD_rotateLeft, h]

theorem rotl28_rotl28 (v : KeyHalf) (a b : Nat) : rotl28 (rotl28 v a) b = rotl28 v (a + b) := by
  apply BitVec.eq_of_getMsbD_eq
  intro i h
  have hwrap : (b + i) % 28 < 28 := Nat.mod_lt _ (by decide)
  rw [getMsbD_rotl28 _ _ h, getMsbD_rotl28 _ _ hwrap, getMsbD_rotl28 _ _ h, Nat.add_mod_mod, Nat.add_assoc]

theorem rotl28_of_dvd {n : Nat} (hn : 28 ∣ n) (v : KeyHalf) : rotl28 v n = v := by
  apply BitVec.eq_of_getMsbD_eq
  intro i h
  rw [getMsbD_rotl28 _ _ h, Nat.add_mod, Nat.mod_eq_zero_of_dvd hn, Nat.zero_add, Nat.mod_mod, Nat.mod_eq_of_lt h]

theorem foldl_rotl28 (l : List Nat) (v : KeyHalf) : l.foldl rotl28 v = rotl28 v l.sum := by
  induction l generalizing v with
  | nil => exact (rotl28_of_dvd (dvd_zero 28) v).symm
  | cons n rest ih => rw [List.foldl_cons, ih, rotl28_rotl28, List.sum_cons]

/-- The slices of R92 for any amount within the width. -/
theorem getMsbD_rotl28_eq_slices (v : KeyHalf) {n : Nat} (hn : n ≤ 28) {i : Nat} (h : i < 28) :
    (rotl28 v n).getMsbD i = (v.extractLsb' 0 (28 - n) ++ v.extractLsb' (28 - n) n).getMsbD i := by
  rw [getMsbD_rotl28 _ _ h, BitVec.getMsbD_append]
  split
  next hlow =>
    have hpos : (n + i) % 28 = i - (28 - n) := by omega
    have hend : 28 - (28 - n + n - (i - (28 - n))) = i - (28 - n) := by omega
    have hin : i - (28 - n) < n := by omega
    have hfit : 28 - n + n - (i - (28 - n)) ≤ 28 := by omega
    simp only [BitVec.getMsbD_extractLsb', hpos, hend, hin, hfit, decide_true, Bool.true_and]
  next hhigh =>
    have hpos : (n + i) % 28 = n + i := by omega
    have hend : 28 - (0 + (28 - n) - i) = n + i := by omega
    have hin : i < 28 - n := by omega
    have hfit : 0 + (28 - n) - i ≤ 28 := by omega
    simp only [BitVec.getMsbD_extractLsb', hpos, hend, hin, hfit, decide_true, Bool.true_and]

/-- Settles O18: bit `i` of a rotation is bit `n + i` modulo 28, so rotations add up and 28 is no rotation. -/
theorem rotationIsCircularOver28Bits : Obligations.RotationIsCircularOver28Bits := by
  refine ⟨fun v => ⟨?_, ?_⟩, rotl28_rotl28, fun v => ?_⟩
  · exact BitVec.eq_of_getMsbD_eq fun i h => getMsbD_rotl28_eq_slices v (by decide) h
  · exact BitVec.eq_of_getMsbD_eq fun i h => getMsbD_rotl28_eq_slices v (by decide) h
  · rw [foldl_rotl28]
    exact rotl28_of_dvd (by decide) v

/-! ### The box index (40 R93) -/

/-- The group at an index of a box: the row's bits outside, the column inside. -/
def groupAt (x : BitVec 6) : BitVec 6 := x.extractLsb' 5 1 ++ x.extractLsb' 0 4 ++ x.extractLsb' 4 1

theorem groupAt_sidx (g : BitVec 6) : groupAt (sidx g) = g := by
  apply BitVec.eq_of_getLsbD_eq
  intro i hi
  simp only [groupAt, sidx, BitVec.getLsbD_append, BitVec.getLsbD_extractLsb']
  interval_cases i <;> simp

theorem sidx_bijective : Function.Bijective sidx :=
  Finite.injective_iff_bijective.1 (Function.LeftInverse.injective groupAt_sidx)

theorem sidx_eq_masks (g : BitVec 6) :
    sidx g = (g &&& 0x20#6) ||| ((g &&& 0x01#6) <<< 4) ||| ((g >>> 1) &&& 0x0F#6) := by
  apply BitVec.eq_of_getLsbD_eq
  intro i hi
  simp only [sidx, BitVec.getLsbD_append, BitVec.getLsbD_extractLsb', BitVec.getLsbD_or, BitVec.getLsbD_and,
    BitVec.getLsbD_shiftLeft, BitVec.getLsbD_ushiftRight]
  interval_cases i <;> simp

theorem toNat_sidx (g : BitVec 6) :
    (sidx g).toNat = 16 * (2 * (g.getLsbD 5).toNat + (g.getLsbD 0).toNat) + (g.extractLsb' 1 4).toNat := by
  have hbit (i : Nat) : (g.extractLsb' i 1).toNat = (g.getLsbD i).toNat := by
    simp [← BitVec.testBit_toNat, Nat.toNat_testBit, Nat.shiftRight_eq_div_pow]
  rw [sidx, BitVec.toNat_append, BitVec.toNat_append, hbit, hbit,
    ← Nat.shiftLeft_add_eq_or_of_lt (BitVec.isLt _), ← Nat.shiftLeft_add_eq_or_of_lt (Bool.toNat_lt _)]
  simp only [Nat.shiftLeft_eq]
  omega

/-- Settles O19: the index keeps all six bits of the group, in another order. -/
theorem boxIndexIsRowThenColumn : Obligations.BoxIndexIsRowThenColumn :=
  ⟨fun g => ⟨toNat_sidx g, sidx_eq_masks g⟩, sidx_bijective, rfl⟩

/-! ### The reference tables (40 R108) -/

theorem getElem_tablesSrcSet_s (j i : Nat) (hj : j < 8) (hi : i < 64) :
    tablesSrcSet.s[j][i] = if j = 3 ∧ i = 53 then 10 else tablesStdSet.s[j][i] := by
  have hset : tablesSrcSet.s = tablesStdSet.s.set 3 (tablesStdSet.s[3].set 53 10) := rfl
  simp only [hset, Vector.getElem_set]
  by_cases h3 : j = 3
  · subst h3; simp [Vector.getElem_set, eq_comm]
  · simp [h3, Ne.symm h3]

theorem sidx_eq_53_iff {g : BitVec 6} : (sidx g).toNat = 53 ↔ g = 0b101011#6 := by
  have h53 : sidx 0b101011#6 = 53#6 := rfl
  rw [← sidx_bijective.injective.eq_iff, h53, ← BitVec.toNat_inj]
  rfl

theorem sbox_tablesSrcSet (j : Fin 8) (g : BitVec 6) :
    sbox tablesSrcSet j g = if j = 3 ∧ g = 0b101011#6 then 10#4 else sbox tablesStdSet j g := by
  have hj : j.val = 3 ↔ j = 3 := ⟨fun h => Fin.ext h, fun h => congrArg Fin.val h⟩
  have h := getElem_tablesSrcSet_s j (sidx g).toNat j.isLt (sidx g).isLt
  simp only [hj, sidx_eq_53_iff] at h
  exact h

/-- Settles O22: one entry is set, and the index being a bijection, one group reaches it. -/
theorem referenceTablesDifferInOneEntry : Obligations.ReferenceTablesDifferInOneEntry := by
  have hstd : sbox tablesStdSet 3 0b101011#6 = 1#4 := rfl
  refine ⟨tablesStdSet_wellFormed, tablesSrcSet_wellFormed, rfl, fun j g => ?_, hstd, rfl, rfl⟩
  rw [sbox_tablesSrcSet]
  split
  next h => obtain ⟨rfl, rfl⟩ := h; simp [hstd]
  next h => simp [h]

end Sys2Proof.Machine

/-! The constants of a built block (40_tables_and_primitives R97): no effect of a transaction writes them. -/

namespace Sys2Proof.Machine

theorem TransactionEffect.par_eq {s t : State} {x : Transaction} (h : TransactionEffect s x t) : t.par = s.par := by
  cases h with
  | blockWritten | inputLoaded | answered | reserved | slotFilled | slotsFilled | blockCommand | payloadDecoded => rfl

/-- Settles O55: each effect writes other state only. -/
theorem nothingWritesTheConstants : Obligations.NothingWritesTheConstants := by
  intro x s t h
  rw [(transact_effect h).par_eq]
  exact ⟨rfl, rfl, rfl⟩

end Sys2Proof.Machine

/-! Key schedule generation (41_key_schedule). The rotations accumulate (R121), so the round keys are told one by one:
position `i` of a schedule is the key of one iteration, which rests on the sub-key through PC1C and PC1D alone. -/

namespace Sys2Proof.Machine

/-! ### The key at a position (41 R120 to R123) -/

theorem getElem?_roundKeys (t : TableSet) (c d : KeyHalf) {shifts : List Nat} {i : Nat} (h : i < shifts.length) :
    (roundKeys t c d shifts)[i]? =
      some (perm t.pc2 (rotl28 c (shifts.take (i + 1)).sum ++ rotl28 d (shifts.take (i + 1)).sum)) := by
  induction shifts generalizing c d i with
  | nil => cases h
  | cons n rest ih =>
    cases i with
    | zero => simp [roundKeys]
    | succ i => simp [roundKeys, ih _ _ (Nat.lt_of_succ_lt_succ h), rotl28_rotl28]

theorem getElem_generatedKeys (t : TableSet) (k : Block) {i : Nat} (h : i < 16) :
    (generatedKeys t k)[i] = iterationKey t k i := by
  have hkey := getElem?_roundKeys t (perm t.pc1c k) (perm t.pc1d k) (shifts := t.shift.toList) (i := i) (by simpa using h)
  obtain ⟨_, hget⟩ := List.getElem?_eq_some_iff.1 hkey
  exact hget

theorem getElem_generateSchedule (t : TableSet) (k : Block) (d : Direction) {i : Nat} (h : i < 16) :
    (generateSchedule t k d)[i] = iterationKey t k (iterationAt d i) := by
  cases d with
  | encrypt => rw [getElem_generateSchedule_encrypt, getElem_generatedKeys, iterationAt]
  | decrypt => rw [getElem_generateSchedule_decrypt, getElem_generatedKeys, iterationAt]

/-- Settles O23: a position's key is that of one iteration, and both schedules hold the same sixteen. -/
theorem scheduleHoldsTheIterationKeys : Obligations.ScheduleHoldsTheIterationKeys := by
  intro t k i h
  have hlast : 15 - i < 16 := by omega
  have hdec := getElem_generateSchedule t k .decrypt h
  exact ⟨getElem_generateSchedule t k .encrypt h, hdec, hdec.trans (getElem_generateSchedule t k .encrypt hlast).symm⟩

/-- Settles O26: KSCHED writes the generated schedule to its slot. -/
theorem kschedFillsItsSlot : Obligations.KschedFillsItsSlot := by
  intro s n k d
  refine ⟨_, exec_ksched_eq n k d s, fun i h => ?_, ?_, rfl⟩
  · simp [getElem_generateSchedule]
  · simp

/-! ### Which sub-key bits matter (41 R130) -/

theorem perm_congr {t : Vector Nat n} {v v' : BitVec w} (h : ∀ p ∈ t.toList, bitm v p = bitm v' p) :
    perm t v = perm t v' := by
  apply BitVec.eq_of_getMsbD_eq
  intro j hj
  rw [getMsbD_perm t v j hj, getMsbD_perm t v' j hj, h t[j] (by simp)]

theorem generateSchedule_congr {t : TableSet} {k k' : Block} (d : Direction)
    (h : ∀ p, p ∈ t.pc1c.toList ∨ p ∈ t.pc1d.toList → bitm k p = bitm k' p) :
    generateSchedule t k d = generateSchedule t k' d := by
  have hc : perm t.pc1c k = perm t.pc1c k' := perm_congr fun p hp => h p (.inl hp)
  have hd : perm t.pc1d k = perm t.pc1d k' := perm_congr fun p hp => h p (.inr hp)
  ext1 i hi
  rw [getElem_generateSchedule t k d hi, getElem_generateSchedule t k' d hi, iterationKey, iterationKey, hc, hd]

/-- PC1C and PC1D of the reference tables name no last bit of a byte (40_tables_and_primitives R104). -/
theorem pc1_entries_of_reference {p : Nat} (h : p ∈ tablesStdSet.pc1c.toList ∨ p ∈ tablesStdSet.pc1d.toList) :
    1 ≤ p ∧ p ≤ 64 ∧ p ∉ [8, 16, 24, 32, 40, 48, 56, 64] := by
  have hall : ∀ q ∈ tablesStdSet.pc1c.toList ++ tablesStdSet.pc1d.toList,
      1 ≤ q ∧ q ≤ 64 ∧ q ∉ [8, 16, 24, 32, 40, 48, 56, 64] := by decide
  exact hall p (List.mem_append.2 h)

/-- Settles O24: a schedule is made from the two permuted halves; the reference sets have PC1C and PC1D in common. -/
theorem unselectedSubKeyBitsHaveNoEffect : Obligations.UnselectedSubKeyBitsHaveNoEffect := by
  refine ⟨fun _ _ _ d h => generateSchedule_congr d h, fun k k' d h => ?_⟩
  have hsel : ∀ p, p ∈ tablesStdSet.pc1c.toList ∨ p ∈ tablesStdSet.pc1d.toList → bitm k p = bitm k' p := fun p hp =>
    have ⟨hpos, hle, hlast⟩ := pc1_entries_of_reference hp
    h p hpos hle hlast
  exact ⟨generateSchedule_congr d hsel, generateSchedule_congr d hsel⟩

/-! ### Constant halves (41 R131) -/

theorem rotl28_of_constant {v : KeyHalf} (h : v = 0#28 ∨ v = BitVec.allOnes 28) (n : Nat) : rotl28 v n = v := by
  apply BitVec.eq_of_getMsbD_eq
  intro i hi
  have hwrap : (n + i) % 28 < 28 := Nat.mod_lt _ (by decide)
  rw [getMsbD_rotl28 v n hi]
  obtain rfl | rfl := h
  · simp
  · simp only [BitVec.getMsbD_allOnes, hwrap, hi]

theorem iterationKey_of_constant {t : TableSet} {k : Block}
    (hc : perm t.pc1c k = 0#28 ∨ perm t.pc1c k = BitVec.allOnes 28)
    (hd : perm t.pc1d k = 0#28 ∨ perm t.pc1d k = BitVec.allOnes 28) (i : Nat) :
    iterationKey t k i = perm t.pc2 (perm t.pc1c k ++ perm t.pc1d k) := by
  rw [iterationKey, rotl28_of_constant hc, rotl28_of_constant hd]

/-- Settles O25: no rotation changes a constant half, so every iteration has one and the same key. -/
theorem constantHalvesGiveEqualKeys : Obligations.ConstantHalvesGiveEqualKeys := by
  refine ⟨rfl, rfl, fun t k hc hd d d' i j hi hj => ?_⟩
  rw [getElem_generateSchedule t k d hi, getElem_generateSchedule t k d' hj, iterationKey_of_constant hc hd,
    iterationKey_of_constant hc hd]

end Sys2Proof.Machine

/-! The block transform (42_block_transform). A uniform round is undone by the same round between two swaps, so a run of
rounds is undone by the run in reverse; the finalising round being a sixteenth uniform round whose swap is undone
(R142), the reversed schedule undoes the transform. -/

namespace Sys2Proof.Machine

/-! ### The round function (42 R135, R136) -/

/-- Box 0's output is the most significant nibble: the boxes after box `j` lie below bit `28 - 4 * j`, those before it
above. -/
theorem extractLsb'_substitute (t : TableSet) (x : RoundKey) (j : Fin 8) :
    (substitute t x).extractLsb' (28 - 4 * j.val) 4 = sbox t j (group x j.val) := by
  unfold substitute
  fin_cases j <;>
    simp (disch := decide) only [BitVec.extractLsb'_append_eq_of_le, BitVec.extractLsb'_append_eq_of_add_le] <;>
    exact BitVec.extractLsb'_eq_self

/-- Settles O27: the word that P permutes is the eight box outputs side by side. -/
theorem roundFunctionByGroups : Obligations.RoundFunctionByGroups := fun t half rk =>
  ⟨substitute t (perm t.e half ^^^ rk), rfl, extractLsb'_substitute t _⟩

/-! ### The rounds (42 R140) -/

/-- A sequence of halves that follows the rounds holds, at each place, the fold over the keys used so far. -/
theorem foldl_feistelRound_take {t : TableSet} {sched : Schedule} {h : Nat → Halves} {m : Nat} (hm : m ≤ 16)
    (hstep : ∀ (r : Nat) (hr : r < m), h (r + 1) = feistelRound t (h r) sched[r]) {n : Nat} (hn : n ≤ m) :
    (sched.toList.take n).foldl (feistelRound t) (h 0) = h n := by
  induction n with
  | zero => rfl
  | succ n ih =>
    have hlen : n < sched.toList.length := by simp; omega
    rw [List.take_succ_eq_append_getElem hlen, List.foldl_concat, ih (by omega), hstep n hn]
    rfl

/-- Settles O28: such a sequence ends in the halves of the fifteen rounds. -/
theorem transformFollowsTheRounds : Obligations.TransformFollowsTheRounds := by
  intro t block sched h hstart hstep
  have hrounds : rounds t (h 0) sched = h 15 := foldl_feistelRound_take (by decide) hstep le_rfl
  rw [← hrounds, hstart]
  rfl

/-! ### The halves of a block (42 R141) -/

/-- The two halves in each other's place. -/
def Halves.swap (h : Halves) : Halves := ⟨h.r, h.l⟩

/-- The block of two halves, L the more significant. -/
def Halves.joined (h : Halves) : Block := h.l ++ h.r

@[simp] theorem Halves.swap_swap (h : Halves) : h.swap.swap = h := rfl

theorem joined_initialHalves (t : TableSet) (b : Block) : (initialHalves t b).joined = perm t.ip b :=
  BitVec.extractLsb'_append_extractLsb'

/-- Splitting undoes joining, and IP undoes FP. -/
theorem initialHalves_perm_fp_joined {t : TableSet} (ht : t.WellFormed) (h : Halves) :
    initialHalves t (perm t.fp h.joined) = h := by
  obtain ⟨-, -, hipfp⟩ := finalPermutationUndoesTheInitial t h.joined ht
  rw [initialHalves, hipfp, Halves.joined, BitVec.extractLsb'_append_eq_left, BitVec.extractLsb'_append_eq_right]

theorem perm_fp_joined_initialHalves {t : TableSet} (ht : t.WellFormed) (b : Block) :
    perm t.fp (initialHalves t b).joined = b := by
  obtain ⟨-, hfpip, -⟩ := finalPermutationUndoesTheInitial t b ht
  rw [joined_initialHalves, hfpip]

/-! ### The finalising round (42 R142) -/

theorem finish_eq_perm_joined_swap (t : TableSet) (h : Halves) (k : RoundKey) :
    finish t h k = perm t.fp (feistelRound t h k).swap.joined := by
  rw [finish, BitVec.xor_comm]
  rfl

theorem uniformRounds_eq_feistelRound_rounds (t : TableSet) (b : Block) (sched : Schedule) :
    uniformRounds t b sched = feistelRound t (rounds t (initialHalves t b) sched) sched[15] := by
  have hsplit : sched.toList = sched.toList.take 15 ++ [sched[15]] := by
    rw [← Vector.getElem_toList (by simp), ← List.take_succ_eq_append_getElem]; simp
  rw [uniformRounds, hsplit, List.foldl_concat]
  rfl

theorem transform_eq_perm_joined_swap (t : TableSet) (b : Block) (sched : Schedule) :
    transform t b sched = perm t.fp (uniformRounds t b sched).swap.joined := by
  rw [transform, finish_eq_perm_joined_swap, uniformRounds_eq_feistelRound_rounds]

/-- Settles O29: the last of sixteen uniform rounds is the finalising round with its halves swapped. -/
theorem finalisingRoundUndoesItsSwap : Obligations.FinalisingRoundUndoesItsSwap := transform_eq_perm_joined_swap

/-! ### Inversion (42 R148) -/

/-- R keeps its value in a round, so the second round takes the same word off L again. -/
theorem feistelRound_swap_feistelRound (t : TableSet) (h : Halves) (k : RoundKey) :
    feistelRound t (feistelRound t h k).swap k = h.swap := by
  simp [feistelRound, Halves.swap]

theorem foldl_reverse_swap_foldl (t : TableSet) (ks : List RoundKey) (h : Halves) :
    ks.reverse.foldl (feistelRound t) (ks.foldl (feistelRound t) h).swap = h.swap := by
  induction ks generalizing h with
  | nil => rfl
  | cons k ks ih =>
    rw [List.reverse_cons, List.foldl_concat, List.foldl_cons, ih, feistelRound_swap_feistelRound]

theorem toList_reversed (sched : Schedule) : (reversed sched).toList = sched.toList.reverse := by
  apply List.ext_getElem
  · simp
  · intro i _ _
    simp [reversed]

theorem transform_reversed_transform {t : TableSet} (ht : t.WellFormed) (b : Block) (sched : Schedule) :
    transform t (transform t b sched) (reversed sched) = b := by
  have hrounds : uniformRounds t (transform t b sched) (reversed sched) = (initialHalves t b).swap := by
    rw [uniformRounds, transform_eq_perm_joined_swap, initialHalves_perm_fp_joined ht, toList_reversed, uniformRounds,
      foldl_reverse_swap_foldl]
  rw [transform_eq_perm_joined_swap, hrounds, Halves.swap_swap, perm_fp_joined_initialHalves ht]

/-- The schedules of one sub-key are each other's reverse (41_key_schedule R122). -/
theorem generateSchedule_opposite (t : TableSet) (k : Block) (d : Direction) :
    generateSchedule t k d.opposite = reversed (generateSchedule t k d) := by
  ext1 i hi
  cases d with
  | encrypt => simp [Direction.opposite, reversed]
  | decrypt =>
    have hback : 15 - (15 - i) = i := by omega
    simp [Direction.opposite, reversed, hback]

theorem cipherWith_opposite_cipherWith {t : TableSet} (ht : t.WellFormed) (d : Direction) (k b : Block) :
    cipherWith t d.opposite k (cipherWith t d k b) = b := by
  rw [cipherWith, generateSchedule_opposite]
  exact transform_reversed_transform ht b _

/-- Settles O30: the reversed rounds undo the rounds, and the schedules of one sub-key are each other's reverse. -/
theorem reversedScheduleInvertsTheTransform : Obligations.ReversedScheduleInvertsTheTransform := fun _ ht =>
  ⟨transform_reversed_transform ht, fun b k d => cipherWith_opposite_cipherWith ht d k b⟩

/-! ### XFORM (42 R145) -/

theorem exec_xform_of_ready {s : State} {n : Slot} (hb : s.bv = true) (hv : s.sv[n] = true) :
    exec (.xform n) s = .next ((s.setBlk (transform s.par.tables.set s.blk s.sched[n])).setErr .ok) := by
  rw [exec_xform_eq, xformOutcome, hb, hv]
  rfl

/-- Settles O31: a ready XFORM writes the transformed block and then ERR. -/
theorem xformTransformsTheBlock : Obligations.XformTransformsTheBlock := fun _ _ => exec_xform_of_ready

/-- KSCHED and XFORM on one slot apply the cipher of the sub-key to BLK. -/
theorem exec_ksched_xform {s : State} (hb : s.bv = true) (n : Slot) (k : SubKey) (d : Direction) :
    ∃ t u, exec (.ksched n k d) s = .next t ∧ exec (.xform n) t = .next u ∧ u.par = s.par ∧ u.bv = true ∧
      u.err = .ok ∧ u.blk = cipherWith s.par.tables.set d (subKey s.par.key k) s.blk := by
  refine ⟨_, _, exec_ksched_eq n k d s, exec_xform_of_ready ?_ ?_, rfl, ?_, rfl, ?_⟩
  · simpa using hb
  · simp
  · simpa using hb
  · simp [cipherWith]

/-- Settles O32: the two ciphers undo each other, and the tables and the key are the same for both. -/
theorem oppositeSchedulesRestoreTheBlock : Obligations.OppositeSchedulesRestoreTheBlock := by
  intro s n m k d hb
  obtain ⟨s₁, s₂, h₁, h₂, hpar, hb₂, -, hblk₂⟩ := exec_ksched_xform hb n k d
  obtain ⟨s₃, s₄, h₃, h₄, -, -, herr, hblk₄⟩ := exec_ksched_xform hb₂ m k d.opposite
  refine ⟨s₁, s₂, s₃, s₄, h₁, h₂, h₃, h₄, ?_, herr⟩
  rw [hblk₄, hblk₂, hpar, cipherWith_opposite_cipherWith s.par.tables.wf]

end Sys2Proof.Machine

/-! Triple chaining (43_triple_chaining). In either mode the triple operation is three single ciphers, the middle one in
the opposite direction and under K2 (R155, R158), so a neighbouring pair under one sub-key cancels, and so do the triples
of the two modes. TSETUP and TXFORM are that operation at the machine. -/

namespace Sys2Proof.Machine

/-! ### The triple operation as three ciphers (43 R161, R163, R165) -/

@[simp] theorem opposite_opposite (d : Direction) : d.opposite.opposite = d := by cases d <;> rfl

/-- The sub-key that a mode applies first (43 R155); the opposite mode applies it last. -/
def firstSubKey (m : Mode) : SubKey :=
  match m with
  | .encrypt => .k1
  | .decrypt => .k3

theorem tripleTransform_tripleSetup (t : TableSet) (key : CipherKey) (m : Mode) (b : Block) :
    tripleTransform t b (tripleSetup t key m) =
      cipherWith t m (subKey key (firstSubKey m.opposite))
        (cipherWith t m.opposite (subKey key .k2) (cipherWith t m (subKey key (firstSubKey m)) b)) := by
  cases m <;> rfl

section
variable {t : TableSet} (ht : t.WellFormed) (key : CipherKey) (m : Mode) (b : Block)
include ht

theorem tripleTransform_opposite_tripleTransform :
    tripleTransform t (tripleTransform t b (tripleSetup t key m)) (tripleSetup t key m.opposite) = b := by
  rw [tripleTransform_tripleSetup t key m, tripleTransform_tripleSetup t key m.opposite]
  rw [cipherWith_opposite_cipherWith ht m, cipherWith_opposite_cipherWith ht m.opposite, opposite_opposite,
    cipherWith_opposite_cipherWith ht m]

theorem tripleTransform_of_first_eq_middle (h : subKey key (firstSubKey m) = subKey key .k2) :
    tripleTransform t b (tripleSetup t key m) = cipherWith t m (subKey key (firstSubKey m.opposite)) b := by
  rw [tripleTransform_tripleSetup, h, cipherWith_opposite_cipherWith ht]

theorem tripleTransform_of_last_eq_middle (h : subKey key (firstSubKey m.opposite) = subKey key .k2) :
    tripleTransform t b (tripleSetup t key m) = cipherWith t m (subKey key (firstSubKey m)) b := by
  have hcancel := cipherWith_opposite_cipherWith ht m.opposite (subKey key .k2)
  rw [opposite_opposite] at hcancel
  rw [tripleTransform_tripleSetup, h, hcancel]

end

/-- Settles O38: on each block the ciphers of one mode are undone by those of the other, last one first. -/
theorem tripleRoundTrip : Obligations.TripleRoundTrip := by
  intro t key m data ht
  rw [List.map_map]
  exact List.map_id'' (tripleTransform_opposite_tripleTransform ht key m) data

/-- Settles O40: K1 comes first in encryption and last in decryption, K3 the other way round, and K2 in the middle. -/
theorem equalSubKeysCancel : Obligations.EqualSubKeysCancel := by
  intro t key b ht
  refine ⟨fun h m => ?_, fun h m => ?_⟩
  · cases m with
    | encrypt => exact tripleTransform_of_first_eq_middle ht key .encrypt b h
    | decrypt => exact tripleTransform_of_last_eq_middle ht key .decrypt b h
  · cases m with
    | encrypt => exact tripleTransform_of_last_eq_middle ht key .encrypt b h.symm
    | decrypt => exact tripleTransform_of_first_eq_middle ht key .decrypt b h.symm

/-! ### TSETUP and TXFORM (43 R156, R160) -/

theorem slotValid_of_writeSlots (s : State) (v : TripleSchedule) (e : Err) (n : Slot) :
    ((s.writeSlots v).setErr e).sv[n] = true := by
  fin_cases n <;> rfl

/-- Settles O33: TSETUP writes the table of its mode to all three slots, and ERR. -/
theorem tsetupFillsTheSlots : Obligations.TsetupFillsTheSlots := fun s =>
  ⟨⟨_, exec_tsetup_eq .encrypt s, rfl, rfl, rfl, slotValid_of_writeSlots s _ _, rfl⟩,
    ⟨_, exec_tsetup_eq .decrypt s, rfl, rfl, rfl, slotValid_of_writeSlots s _ _, rfl⟩⟩

theorem exec_txform_of_ready {s : State} (hb : s.bv = true) (hv : ∀ n : Slot, s.sv[n] = true) :
    exec .txform s = .next ((s.setBlk (tripleTransform s.par.tables.set s.blk s.sched)).setErr .ok) := by
  rw [exec_txform_eq, txformOutcome, hb, s.allSlotsValid_iff.2 hv]
  rfl

/-- Settles O35: a ready TXFORM writes the block that went through the three slots, and ERR. -/
theorem txformAppliesTheSlotsInOrder : Obligations.TxformAppliesTheSlotsInOrder := fun _ => exec_txform_of_ready

/-- A block command's writes of BLK and ERR replace those of the one before. -/
theorem State.setBlk_setErr_twice (s : State) (v w : Block) (e f : Err) :
    (((s.setBlk v).setErr e).setBlk w).setErr f = (s.setBlk w).setErr f := rfl

/-- Settles O36: an XFORM leaves the valid bits and the other schedules as they are, so the next one is ready too. -/
theorem txformEqualsThreeXform : Obligations.TxformEqualsThreeXform := by
  intro s hb hv
  refine ⟨_, _, _, exec_xform_of_ready hb (hv 0), exec_xform_of_ready ?_ ?_, exec_xform_of_ready ?_ ?_, ?_⟩
  · simpa using hb
  · simpa using hv 1
  · simpa using hb
  · simpa using hv 2
  · rw [exec_txform_of_ready hb hv, tripleTransform, State.setBlk_setErr_twice, State.setBlk_setErr_twice]
    simp

/-- TSETUP and TXFORM apply the triple operation of the mode to BLK. -/
theorem exec_tsetup_txform {s : State} (hb : s.bv = true) (m : Mode) :
    ∃ t u, exec (.tsetup m) s = .next t ∧ exec .txform t = .next u ∧ u.par = s.par ∧ u.bv = true ∧ u.err = .ok ∧
      u.blk = tripleTransform s.par.tables.set s.blk (tripleSetup s.par.tables.set s.par.key m) :=
  ⟨_, _, exec_tsetup_eq m s, exec_txform_of_ready hb (slotValid_of_writeSlots s _ _), rfl, hb, rfl, rfl⟩

/-- Settles O37: the block goes through the three ciphers of the mode. -/
theorem tripleComposition : Obligations.TripleComposition := by
  intro s hb
  obtain ⟨s₁, s₂, h₁, h₂, -, -, -, henc⟩ := exec_tsetup_txform hb .encrypt
  obtain ⟨s₃, s₄, h₃, h₄, -, -, -, hdec⟩ := exec_tsetup_txform hb .decrypt
  rw [tripleTransform_tripleSetup] at henc hdec
  exact ⟨⟨s₁, s₂, h₁, h₂, henc⟩, ⟨s₃, s₄, h₃, h₄, hdec⟩⟩

/-- Settles O39: the triple operations of the two modes undo each other, and the tables and the key stay. -/
theorem oppositeModesRestoreTheBlock : Obligations.OppositeModesRestoreTheBlock := by
  intro s m hb
  obtain ⟨s₁, s₂, h₁, h₂, hpar, hb₂, -, hblk₂⟩ := exec_tsetup_txform hb m
  obtain ⟨s₃, s₄, h₃, h₄, -, -, herr, hblk₄⟩ := exec_tsetup_txform hb₂ m.opposite
  refine ⟨s₁, s₂, s₃, s₄, h₁, h₂, h₃, h₄, ?_, herr⟩
  rw [hblk₄, hblk₂, hpar, tripleTransform_opposite_tripleTransform s.par.tables.wf]

end Sys2Proof.Machine

/-! The hex front-end and DECODE (44_payload_decoder). Two characters make one byte, so the hex decode is reasoned about
two characters at a time. Cutting sixteen characters out of a valid string cuts eight bytes out of its output
(R177), so the sixteen characters alone fix the eight bytes. -/

namespace Sys2Proof.Machine

/-! ### The digits (44 R170) -/

theorem hexval_ne_none_iff (c : Byte) : hexval c ≠ none ↔
    (0x30 ≤ c.toNat ∧ c.toNat ≤ 0x39) ∨ (0x41 ≤ c.toNat ∧ c.toNat ≤ 0x46) ∨ (0x61 ≤ c.toNat ∧ c.toNat ≤ 0x66) := by
  unfold hexval
  split_ifs with hdec hupper hlower
  · simp [hdec]
  · simp [hupper]
  · simp [hlower]
  · simp [hdec, hupper, hlower]

/-- Settles O41: the 22 digits one by one, and the three ranges for every other character. -/
theorem hexDigitTable : Obligations.HexDigitTable := ⟨by decide, by decide, hexval_ne_none_iff⟩

/-! ### The hex decode (44 R171, R172) -/

@[simp] theorem hexdecode_singleton (c : Byte) : hexdecode [c] = none := rfl

/-- The rule for two characters: the first is the high nibble. -/
theorem hexdecode_cons_cons (x y : Byte) (rest : List Byte) :
    hexdecode (x :: y :: rest) =
      (hexval x).bind fun u => (hexval y).bind fun l => (hexdecode rest).map ((u ++ l) :: ·) := by
  rw [hexdecode]
  cases hexval x with
  | none => rfl
  | some u =>
    cases hexval y with
    | none => rfl
    | some l => cases hexdecode rest <;> rfl

theorem hexdecode_cons_cons_eq_none_iff {x y : Byte} {rest : List Byte} :
    hexdecode (x :: y :: rest) = none ↔ hexval x = none ∨ hexval y = none ∨ hexdecode rest = none := by
  rw [hexdecode_cons_cons]
  cases hexval x with
  | none => simp
  | some u => cases hexval y <;> simp

theorem hexdecode_cons_cons_eq_some_iff {x y : Byte} {rest b : List Byte} :
    hexdecode (x :: y :: rest) = some b ↔
      ∃ u l out, hexval x = some u ∧ hexval y = some l ∧ hexdecode rest = some out ∧ b = (u ++ l) :: out := by
  simp only [hexdecode_cons_cons, Option.bind_eq_some_iff, Option.map_eq_some_iff, eq_comm (a := b)]
  tauto

theorem hexdecode_eq_none_iff (s : List Byte) :
    hexdecode s = none ↔ s.length % 2 = 1 ∨ ∃ c ∈ s, hexval c = none := by
  induction s using List.twoStepInduction with
  | nil => simp
  | singleton c => simp
  | cons_cons x y rest ih =>
    rw [hexdecode_cons_cons_eq_none_iff, ih]
    simp only [List.length_cons, List.mem_cons, exists_eq_or_imp]
    have hparity : (rest.length + 1 + 1) % 2 = rest.length % 2 := by omega
    rw [hparity]
    tauto

theorem length_of_hexdecode {s b : List Byte} (h : hexdecode s = some b) : s.length = 2 * b.length := by
  induction s using List.twoStepInduction generalizing b with
  | nil => cases h; rfl
  | singleton c => cases h
  | cons_cons x y rest ih =>
    obtain ⟨u, l, out, -, -, hrest, rfl⟩ := hexdecode_cons_cons_eq_some_iff.1 h
    simp [ih hrest]
    omega

theorem hexdecode_drop {s b : List Byte} (h : hexdecode s = some b) (n : Nat) :
    hexdecode (s.drop (2 * n)) = some (b.drop n) := by
  induction n generalizing s b with
  | zero => exact h
  | succ n ih =>
    match s with
    | [] => cases h; simp
    | [_] => cases h
    | x :: y :: rest =>
      obtain ⟨u, l, out, -, -, hrest, rfl⟩ := hexdecode_cons_cons_eq_some_iff.1 h
      exact ih hrest

theorem hexdecode_take {s b : List Byte} (h : hexdecode s = some b) (n : Nat) :
    hexdecode (s.take (2 * n)) = some (b.take n) := by
  induction n generalizing s b with
  | zero => rfl
  | succ n ih =>
    match s with
    | [] => cases h; simp
    | [_] => cases h
    | x :: y :: rest =>
      obtain ⟨u, l, out, hu, hl, hrest, rfl⟩ := hexdecode_cons_cons_eq_some_iff.1 h
      exact hexdecode_cons_cons_eq_some_iff.2 ⟨u, l, _, hu, hl, ih hrest, rfl⟩

/-- A first byte comes from the first two characters. -/
theorem hexdecode_eq_some_cons {s out : List Byte} {v : Byte} (h : hexdecode s = some (v :: out)) :
    ∃ (x y : Byte) (u l : BitVec 4), s[0]? = some x ∧ s[1]? = some y ∧ hexval x = some u ∧ hexval y = some l ∧
      v = u ++ l := by
  match s with
  | [] => cases h
  | [_] => cases h
  | x :: y :: rest =>
    obtain ⟨u, l, out, hu, hl, -, hv⟩ := hexdecode_cons_cons_eq_some_iff.1 h
    exact ⟨x, y, u, l, rfl, rfl, hu, hl, (List.cons.inj hv).1⟩

theorem toNat_append_nibbles (u l : BitVec 4) : (u ++ l).toNat = 16 * u.toNat + l.toNat := by
  rw [BitVec.toNat_append, ← Nat.shiftLeft_add_eq_or_of_lt l.isLt, Nat.shiftLeft_eq, Nat.mul_comm]

/-- Settles O42: byte `i` is the first of what the characters from `2i` on decode to. -/
theorem hexDecodePairsCharacters : Obligations.HexDecodePairsCharacters := by
  refine ⟨hexdecode_eq_none_iff, fun s b h => ?_⟩
  have hlen := length_of_hexdecode h
  refine ⟨by omega, fun i hi => ?_⟩
  have hdrop := hexdecode_drop h i
  rw [List.drop_eq_getElem_cons hi] at hdrop
  obtain ⟨x, y, u, l, hx, hy, hu, hl, hv⟩ := hexdecode_eq_some_cons hdrop
  refine ⟨x, y, u, l, ?_, ?_, hu, hl, ?_⟩
  · simpa using hx
  · simpa using hy
  · rw [hv, toNat_append_nibbles]

/-! ### The chunks (44 R174) -/

theorem length_of_mem_chunks8 {b c : List Byte} (h : c ∈ chunks8 b) : c.length = 8 := by
  obtain ⟨k, hk, rfl⟩ := List.mem_map.1 h
  have hfits : k < b.length / 8 := List.mem_range.1 hk
  simp
  omega

/-- Consecutive pieces of 8 bytes join to the bytes they come from. -/
theorem flatten_pieces (b : List Byte) (n : Nat) :
    ((List.range n).map fun k => (b.drop (8 * k)).take 8).flatten = b.take (8 * n) := by
  induction n with
  | zero => simp
  | succ n ih => simp [List.range_succ, ih, Nat.mul_succ, List.take_add]

/-- Settles O43, by induction on the number of chunks. -/
theorem chunksDropTheRemainder : Obligations.ChunksDropTheRemainder := fun b =>
  ⟨length_chunks8 b, fun _ => length_of_mem_chunks8, flatten_pieces b _⟩

/-- Eight bytes at a chunk's place are that chunk alone, and fewer than eight are none. -/
theorem chunks8_slice (b : List Byte) (k : Nat) :
    chunks8 ((b.drop (8 * k)).take 8) = (chunks8 b)[k]?.toList := by
  by_cases hk : k < b.length / 8
  · have hpiece := getElem?_chunks8 hk
    have hlen := length_of_mem_chunks8 (List.mem_of_getElem? hpiece)
    rw [hpiece, chunks8, hlen]
    simp
  · have hpast : (chunks8 b).length ≤ k := by rw [length_chunks8]; omega
    rw [List.getElem?_eq_none hpast]
    exact List.eq_nil_of_length_eq_zero (by simp; omega)

/-- In a concatenation of pieces of one length `n`, the `n` elements from `n * k` on are piece `k`. -/
theorem take_drop_flatMap_of_length_eq {α β : Type} {l : List α} {f : α → List β} {n : Nat}
    (hlen : ∀ x ∈ l, (f x).length = n) (k : Nat) :
    ((l.flatMap f).drop (n * k)).take n = l[k]?.toList.flatMap f := by
  induction l generalizing k with
  | nil => simp
  | cons x rest ih =>
    have hx : (f x).length = n := hlen x List.mem_cons_self
    cases k with
    | zero => simp [← hx]
    | succ k =>
      have hpast : n * (k + 1) = (f x).length + n * k := by rw [hx, Nat.mul_succ]; omega
      rw [List.flatMap_cons, hpast, List.drop_length_add_append]
      exact ih (fun y hy => hlen y (List.mem_cons_of_mem x hy)) k

/-! ### The whole decode (44 R177, R181) -/

/-- Sixteen characters cut out of a valid string decode to the eight bytes at their place in its output. -/
theorem decodeFront_slice {t : TableSet} {key : CipherKey} {s out : List Byte} (h : decodeFront t key s = some out)
    (k : Nat) : decodeFront t key ((s.drop (16 * k)).take 16) = some ((out.drop (8 * k)).take 8) := by
  rw [decodeFront_eq, Option.map_eq_some_iff] at h ⊢
  obtain ⟨b, hb, rfl⟩ := h
  have hdrop : hexdecode (s.drop (16 * k)) = some (b.drop (8 * k)) := by
    simpa [← Nat.mul_assoc] using hexdecode_drop hb (8 * k)
  refine ⟨_, hexdecode_take hdrop 8, ?_⟩
  rw [chunks8_slice, take_drop_flatMap_of_length_eq fun _ _ => length_decryptChunk ..]

theorem decodeFront_eq_none_iff (t : TableSet) (key : CipherKey) (s : List Byte) :
    decodeFront t key s = none ↔ s.length % 2 = 1 ∨ ∃ c ∈ s, hexval c = none := by
  rw [decodeFront_eq, Option.map_eq_none_iff, hexdecode_eq_none_iff]

/-- Settles O46: the same sixteen characters decode to the same eight bytes. -/
theorem decodeFrontLengthAndIndependence : Obligations.DecodeFrontLengthAndIndependence := by
  refine ⟨fun t key s out h => ?_, fun t key s s' out out' k k' h h' heq => ?_, fun t key s hbad => ?_⟩
  · obtain ⟨b, hb, -⟩ := Option.map_eq_some_iff.1 ((decodeFront_eq t key s).symm.trans h)
    have hpairs := length_of_hexdecode hb
    have hlen := length_decodeFront hb h
    omega
  · have hcut := decodeFront_slice h k
    rw [heq, decodeFront_slice h' k'] at hcut
    exact (Option.some.inj hcut).symm
  · exact (decodeFront_eq_none_iff t key s).2 (.inr hbad)

/-- Settles O45: the decode of such an IBUF fails, and DECODE then answers the raised state. -/
theorem failedDecodeEmptiesTheOutput : Obligations.FailedDecodeEmptiesTheOutput := by
  intro s hbad
  have hlen : s.ilen = s.ibuf.toSeq.length := s.ibuf.length_toSeq.symm
  rw [hlen, ← decodeFront_eq_none_iff s.par.tables.set s.par.key] at hbad
  rw [exec_decode_eq, decodeOutcome, hbad]
  rfl

end Sys2Proof.Machine

/-! Errors (60_exceptions). InvalidHex is the one raise that writes more than ERR (R204). What XFORM and TXFORM
raise is decided by BV first and by the slots' valid bits after it (R207). -/

namespace Sys2Proof.Machine

/-! ### What a raise leaves (60 R204) -/

theorem raise_eq_setErr {x : Cause} (h : x ≠ .invalidHex) (s : State) : raise x s = s.setErr x.err := by
  cases x with
  | invalidHex => exact absurd rfl h
  | illegalCommand => rfl
  | slotNotReady => rfl
  | blockNotReady => rfl

theorem raise_invalidHex (s : State) : raise .invalidHex s = (s.writeObuf []).setErr .invalidHex := rfl

/-- Settles O12: InvalidHex replaces OBUF by the empty sequence, and the other causes write ERR only. -/
theorem raiseTable : Obligations.RaiseTable := fun s =>
  ⟨⟨raise_invalidHex s, rfl⟩, ⟨raise_eq_setErr (by decide) s, rfl⟩, ⟨raise_eq_setErr (by decide) s, rfl⟩,
    raise_eq_setErr (by decide) s, rfl⟩

/-! ### When XFORM and TXFORM raise (60 R202, R203) -/

theorem State.allSlotsValid_eq_false_iff (s : State) : s.allSlotsValid = false ↔ ∃ n : Slot, s.sv[n] = false := by
  simp [← Bool.not_eq_true, s.allSlotsValid_iff]

theorem exec_xform_of_block_unwritten {s : State} (n : Slot) (hb : s.bv = false) :
    exec (.xform n) s = .next (s.setErr .blockNotReady) := by
  rw [exec_xform_eq, xformOutcome, hb]
  rfl

theorem exec_xform_of_slot_invalid {s : State} {n : Slot} (hb : s.bv = true) (hv : s.sv[n] = false) :
    exec (.xform n) s = .next (s.setErr .slotNotReady) := by
  rw [exec_xform_eq, xformOutcome, hb, hv]
  rfl

theorem exec_txform_of_block_unwritten {s : State} (hb : s.bv = false) :
    exec .txform s = .next (s.setErr .blockNotReady) := by
  rw [exec_txform_eq, txformOutcome, hb]
  rfl

theorem exec_txform_of_slot_invalid {s : State} (hb : s.bv = true) (hv : ∃ n : Slot, s.sv[n] = false) :
    exec .txform s = .next (s.setErr .slotNotReady) := by
  rw [exec_txform_eq, txformOutcome, hb, s.allSlotsValid_eq_false_iff.2 hv]
  rfl

/-- Settles O14: the two conditions one after the other, for each of the two commands. -/
theorem notReadyErrors : Obligations.NotReadyErrors := fun _ =>
  ⟨exec_xform_of_block_unwritten, fun _ => exec_xform_of_slot_invalid, exec_txform_of_block_unwritten,
    exec_txform_of_slot_invalid⟩

end Sys2Proof.Machine

/-! What software must do before use (70_reset_and_hazards R232). Three transactions that complete one after the other
are a run of three steps. WR BLK and a command that fills the slots make XFORM or TXFORM ready in every state, so in the
reset state too, whatever stands behind its valid bits. -/

namespace Sys2Proof.Machine

theorem run_issueAll_triple {a b c : Transaction} {s s₁ s₂ s₃ : State} (ha : transact a s = .next s₁)
    (hb : transact b s₁ = .next s₂) (hc : transact c s₂ = .next s₃) :
    core.run 3 (s.issueAll [a, b, c]) = .next s₃ :=
  calc core.run 3 (s.issueAll [a, b, c])
    _ = core.run 2 (s₁.issueAll [b, c]) := run_issueAll_cons ha [b, c]
    _ = core.run 1 (s₂.issueAll [c]) := run_issueAll_cons hb [c]
    _ = core.run 0 (s₃.issueAll []) := run_issueAll_cons hc []

theorem transact_cmd_encode (i : Instr) (s : State) : transact (.cmd (encode i)) s = exec i s := command_encode i s

theorem run_wrBlk_ksched_xform (s : State) (v : Block) (n : Slot) (k : SubKey) (d : Direction) :
    ∃ t, core.run 3 (s.issueAll [.wrBlk v, .cmd (encode (.ksched n k d)), .cmd (encode (.xform n))]) = .next t ∧
      t.err = .ok ∧ t.blk = cipherWith s.par.tables.set d (subKey s.par.key k) v := by
  obtain ⟨t, u, hksched, hxform, -, -, herr, hblk⟩ := exec_ksched_xform (s.writeBlk_bv v) n k d
  rw [← transact_cmd_encode] at hksched hxform
  exact ⟨u, run_issueAll_triple rfl hksched hxform, herr, hblk⟩

/-- The write of BLK between the two commands leaves the slots that TSETUP filled as they are. -/
theorem run_tsetup_wrBlk_txform (s : State) (m : Mode) (v : Block) :
    ∃ t, core.run 3 (s.issueAll [.cmd (encode (.tsetup m)), .wrBlk v, .cmd (encode .txform)]) = .next t ∧
      t.err = .ok ∧ t.blk = tripleTransform s.par.tables.set v (tripleSetup s.par.tables.set s.par.key m) := by
  have htsetup := exec_tsetup_eq m s
  have hvalid := slotValid_of_writeSlots s (tripleSetup s.par.tables.set s.par.key m) .ok
  have htxform := exec_txform_of_ready (State.writeBlk_bv _ v) hvalid
  rw [← transact_cmd_encode] at htsetup htxform
  exact ⟨_, run_issueAll_triple htsetup rfl htxform, rfl, rfl⟩

/-- Settles O59: what holds from every state holds from reset, which carries the configured constants. -/
theorem preparedTransformsCompleteFromReset : Obligations.PreparedTransformsCompleteFromReset := fun v n k d m =>
  ⟨run_wrBlk_ksched_xform State.reset v n k d, run_tsetup_wrBlk_txform State.reset m v⟩

end Sys2Proof.Machine

/-! The host transactions (20_memory R56). Three of them have a precondition: RD BLK reads a written block, LD IBUF
fits the capacity, and RD OBUF[j] names an element that exists. Each answers a next state where it holds and is refused
under its own name where it does not (93 U4, U13, U5); no other transaction is refused. -/

namespace Sys2Proof.Machine

/-! ### The transactions with a precondition -/

theorem readBlk_of_written {s : State} (h : s.bv = true) : readBlk s = .next (s.answer (.block s.blk)) := by
  rw [readBlk, h]
  rfl

theorem readBlk_of_unwritten {s : State} (h : s.bv = false) : readBlk s = .refused .blockUnwritten := by
  rw [readBlk, h]
  rfl

theorem load_of_fits {s : State} {c : List Byte} (h : fitsIbuf s.par.ibufCap c.length = true) :
    load c s = .next (s.loadIbuf c) := by
  rw [load, h]
  rfl

theorem load_of_too_long {s : State} {c : List Byte} (h : fitsIbuf s.par.ibufCap c.length = false) :
    load c s = .refused .loadTooLong := by
  rw [load, h]
  rfl

theorem readObufAt_of_element {s : State} {j : Nat} {b : Byte} (h : s.obuf.read j = some b) :
    readObufAt j s = .next (s.answer (.byte b)) := by
  rw [readObufAt, h]

theorem readObufAt_of_no_element {s : State} {j : Nat} (h : s.obuf.read j = none) :
    readObufAt j s = .refused .noSuchOutputElement := by
  rw [readObufAt, h]

/-- The index of an element of a buffer is below the buffer's length (10_state R30). -/
theorem Memory.exists_read_eq_some {m : Memory} (hm : m.wf) {j : Nat} (hj : j < m.length) :
    ∃ b, m.read j = some b :=
  ⟨m.toSeq[j]'(by simpa using hj), by rw [m.read_eq_getElem? hm, List.getElem?_eq_getElem]⟩

theorem Memory.read_eq_none {m : Memory} (hm : m.wf) {j : Nat} (hj : m.length ≤ j) : m.read j = none := by
  rw [m.read_eq_getElem? hm, List.getElem?_eq_none (by simpa using hj)]

/-! ### What a step can be -/

/-- Settles O9: the step is the transaction at the head of the queue, and each row is that transaction's effect. -/
theorem hostTransactionTable : Obligations.HostTransactionTable := by
  intro s rest
  refine ⟨fun v h => step_of_host_cons h, fun h hb => ?rdBlk, fun h hb => ?rdBlkRefused, fun c h hc => ?ldIbuf,
    fun c h hc => ?ldIbufRefused, fun h => step_of_host_cons h, fun h => step_of_host_cons h, fun h hm => ?rdObuf,
    fun j h hm hj => ?rdObufAt, fun j h hm hj => ?rdObufAtRefused, fun h => step_of_host_cons h,
    fun c h => step_of_host_cons h⟩
  case rdBlk => exact (step_of_host_cons h).trans (readBlk_of_written hb)
  case rdBlkRefused => exact (step_of_host_cons h).trans (readBlk_of_unwritten hb)
  case ldIbuf =>
    exact ⟨Memory.ofSeq c, (step_of_host_cons h).trans (load_of_fits hc), Memory.length_ofSeq c, Memory.read_ofSeq c⟩
  case ldIbufRefused => exact (step_of_host_cons h).trans (load_of_too_long hc)
  case rdObuf =>
    exact ⟨s.obuf.toSeq, step_of_host_cons h, s.obuf.length_toSeq, fun a => (s.obuf.read_eq_getElem? hm a).symm⟩
  case rdObufAt =>
    obtain ⟨b, hb⟩ := Memory.exists_read_eq_some hm hj
    exact ⟨b, hb, (step_of_host_cons h).trans (readObufAt_of_element hb)⟩
  case rdObufAtRefused =>
    exact (step_of_host_cons h).trans (readObufAt_of_no_element (Memory.read_eq_none hm hj))

/-- Each transaction but three answers a next state from every state. -/
theorem transact_next_or_refused (x : Transaction) (s : State) :
    (∃ t, transact x s = .next t) ∨
    (x = .rdBlk ∧ s.bv = false ∧ transact x s = .refused .blockUnwritten) ∨
    (∃ j, x = .rdObufAt j ∧ s.obuf.read j = none ∧ transact x s = .refused .noSuchOutputElement) ∨
    (∃ c, x = .ldIbuf c ∧ fitsIbuf s.par.ibufCap c.length = false ∧ transact x s = .refused .loadTooLong) := by
  cases x with
  | rdBlk =>
    cases hb : s.bv with
    | true => exact .inl ⟨_, readBlk_of_written hb⟩
    | false => exact .inr (.inl ⟨rfl, rfl, readBlk_of_unwritten hb⟩)
  | rdObufAt j =>
    cases hj : s.obuf.read j with
    | some b => exact .inl ⟨_, readObufAt_of_element hj⟩
    | none => exact .inr (.inr (.inl ⟨j, rfl, hj, readObufAt_of_no_element hj⟩))
  | ldIbuf c =>
    cases hc : fitsIbuf s.par.ibufCap c.length with
    | true => exact .inl ⟨_, load_of_fits hc⟩
    | false => exact .inr (.inr (.inr ⟨c, rfl, hc, load_of_too_long hc⟩))
  | cmd c =>
    obtain ⟨t, ht, -⟩ := command_completes_or_raises c s
    exact .inl ⟨t, ht⟩
  | wrBlk | rdIlen | rdOlen | rdObuf | rdStatus => exact .inl ⟨_, rfl⟩

/-- Settles O11: an idle step answers the state, and any other step is one transaction. -/
theorem stepStopsOnlyAtRefusedMoves : Obligations.StepStopsOnlyAtRefusedMoves := by
  intro s
  obtain ⟨-, hs⟩ | ⟨x, rest, hx, hs⟩ := step_cases s
  · exact .inl ⟨s, hs⟩
  · rw [hs]
    obtain h | ⟨rfl, hb, h⟩ | ⟨j, rfl, hj, h⟩ | ⟨c, rfl, hc, h⟩ := transact_next_or_refused x (s.setHost rest)
    · exact .inl h
    · exact .inr (.inl ⟨rest, hx, hb, h⟩)
    · exact .inr (.inr (.inl ⟨j, rest, hx, hj, h⟩))
    · exact .inr (.inr (.inr ⟨c, rest, hx, hc, h⟩))

/-- Settles O7: the transaction at the head of the queue is the command's own word. -/
theorem stepRunsTheDecodedCommand : Obligations.StepRunsTheDecodedCommand := by
  intro s c i rest hhost hdecode
  rw [step_of_host_cons hhost, decode_eq_ok_iff.1 hdecode]
  exact transact_cmd_encode i _

/-- Settles O8: a step on a queue that is not empty would be a transaction of it. -/
theorem idleBlockKeepsItsState : Obligations.IdleBlockKeepsItsState := by
  intro s hhost
  obtain ⟨-, hs⟩ | ⟨x, rest, hx, -⟩ := step_cases s
  · exact hs
  · exact absurd (hx.symm.trans hhost) (List.cons_ne_nil x rest)

end Sys2Proof.Machine

/-! The lines of commands (30_encoding R80). A legal word's line is its mnemonic, and no two mnemonics are equal; a
reserved word's line is CMD with a number, whose digits read back to any width. -/

namespace Sys2Proof.Machine

/-! ### Numbers to base 16 -/

theorem charDigit_digitChar {v : Nat} (h : v < 16) : charDigit (digitChar v) = some v := by
  have hall : ∀ d : Fin 16, charDigit (digitChar d) = some d.val := by decide
  exact hall ⟨v, h⟩

/-- `w` digits show `v` below `16 ^ w`, and move the digits before them up by `w` places. -/
theorem digitsValue_hexDigits (w v acc : Nat) :
    digitsValue 16 acc (hexDigits w v) = some (16 ^ w * acc + v % 16 ^ w) := by
  induction w generalizing acc with
  | zero => simp [hexDigits, digitsValue, Nat.mod_one]
  | succ w ih =>
    have hdigit : v / 16 ^ w % 16 < 16 := Nat.mod_lt _ (by decide)
    simp only [hexDigits, digitsValue, charDigit_digitChar hdigit, if_pos hdigit, ih]
    rw [Nat.pow_succ, Nat.mod_mul]
    congr 1
    ring

theorem readNumber_hexLiteral (w v : Nat) : readNumber (hexLiteral (w + 1) v) = some (v % 16 ^ (w + 1)) := by
  have h := digitsValue_hexDigits (w + 1) v 0
  rw [Nat.mul_zero, Nat.zero_add] at h
  exact h

theorem readBits_hexLiteral (c : Byte) : readBits 8 (hexLiteral 2 c.toNat) = some c := by
  have hc : c.toNat < 2 ^ 8 := c.isLt
  have hmod : c.toNat % 16 ^ (1 + 1) = c.toNat := Nat.mod_eq_of_lt hc
  simp only [readBits, readNumber_hexLiteral, hmod, if_pos hc, BitVec.ofNat_toNat, BitVec.setWidth_eq]

/-! ### The end of a line -/

/-- A line with neither a comment nor a blank at its end is all body. -/
theorem stripEnd_append_singleton {l : Line} {x : Char} (hl : ∀ y ∈ l ++ [x], y ≠ ';') (hx : x ≠ ' ') :
    stripEnd (l ++ [x]) = l ++ [x] := by
  have htake : (l ++ [x]).takeWhile (· ≠ ';') = l ++ [x] :=
    List.takeWhile_eq_self_iff.2 fun y hy => by simpa using hl y hy
  rw [stripEnd, htake]
  simp [hx]

theorem digitChar_ne {v : Nat} (h : v < 16) : digitChar v ≠ ';' ∧ digitChar v ≠ ' ' := by
  have hall : ∀ d : Fin 16, digitChar d ≠ ';' ∧ digitChar d ≠ ' ' := by decide
  exact hall ⟨v, h⟩

/-! ### The two forms of a command's line -/

/-- A command's mnemonic is its own, and no other form of a line begins like one. -/
theorem readLine_writeInstr (i : Instr) : readLine (writeInstr i) = some (.cmd (encode i)) := by
  have hall : ∀ j ∈ Instr.all, readLine (writeInstr j) = some (.cmd (encode j)) := by decide
  exact hall i i.mem_all

/-- What stands after CMD is read as its number. -/
theorem readLine_cmd {l : Line} (hl : stripEnd (['C', 'M', 'D', ' '] ++ l) = ['C', 'M', 'D', ' '] ++ l) :
    readLine (['C', 'M', 'D', ' '] ++ l) = (readBits 8 l).map .cmd := by
  have hblank : (['C', 'M', 'D', ' '] ++ l).dropWhile (· = ' ') = ['C', 'M', 'D', ' '] ++ l := rfl
  rw [readLine, hblank, hl]
  simp [readWithOperand, afterPrefix]

theorem stripEnd_cmd_hexLiteral (v : Nat) :
    stripEnd (['C', 'M', 'D', ' '] ++ hexLiteral 2 v) = ['C', 'M', 'D', ' '] ++ hexLiteral 2 v := by
  obtain ⟨hhigh, -⟩ := digitChar_ne (v := v / 16 ^ 1 % 16) (Nat.mod_lt _ (by decide))
  obtain ⟨hlow, hblank⟩ := digitChar_ne (v := v / 16 ^ 0 % 16) (Nat.mod_lt _ (by decide))
  refine stripEnd_append_singleton (l := ['C', 'M', 'D', ' ', '0', 'x', _]) ?_ hblank
  simpa using And.intro hhigh hlow

/-- Settles O6: the line of a legal word is a mnemonic, and the line of a reserved word is its number. -/
theorem commandLinesReadBack : Obligations.CommandLinesReadBack := by
  intro c
  cases h : decode c with
  | ok i =>
    rw [writeLine, h, decode_eq_ok_iff.1 h]
    exact readLine_writeInstr i
  | error e =>
    rw [writeLine, h]
    change readLine (['C', 'M', 'D', ' '] ++ hexLiteral 2 c.toNat) = some (.cmd c)
    rw [readLine_cmd (stripEnd_cmd_hexLiteral c.toNat), readBits_hexLiteral, Option.map_some]

end Sys2Proof.Machine
